-- ==== Sys2Proof/Word.lean ====
section
/-! DEFINITION. The word types of FDNCORE (spec/00_scope.md R7). -/

namespace Sys2Proof

/-- A binary32 number, held as its 32 bits (00_scope.md R7, 40_numerics.md R80). -/
abbrev F32 := BitVec 32

/-- An operand word `A` or `B` of a command (30_encoding.md R60). -/
abbrev Operand := BitVec 32

/-- The `IDX` field of a command (30_encoding.md R60). -/
abbrev Idx := BitVec 8

/-- A command word of the one format `CMD96` (30_encoding.md R60). -/
abbrev CmdWord := BitVec 96

end Sys2Proof
end

