-- ==== Sys2Proof/Syntax.lean ====
section
/-! DEFINITION. The nine commands of spec/opcode_table.json, one constructor a row. -/

namespace Sys2Proof

/-- A command with the fields it uses (30_encoding.md R61, R63). Fields a command ignores are not
kept: words that differ in them only are one command. -/
inductive Instr where
  /-- NOP, 47_cmd_lifecycle.md R170. -/
  | nop
  /-- PREPARE `sampleRate` (F32), `maxBlockSize` (I32), 47_cmd_lifecycle.md R171. -/
  | prepare (rate block : Operand)
  /-- RESET, 47_cmd_lifecycle.md R172. -/
  | reset
  /-- PROCESS `inputLeft`, `inputRight` (F32), 49_cmd_process.md R190. -/
  | process (left right : Operand)
  /-- RDSTAT, 47_cmd_lifecycle.md R173. -/
  | rdstat
  /-- SETP index, value (F32), 48_cmd_control.md R180. -/
  | setp (idx : Idx) (value : Operand)
  /-- SETMODE mode number, 48_cmd_control.md R181. -/
  | setmode (idx : Idx)
  /-- SETFRZ flag, 48_cmd_control.md R182. -/
  | setfrz (idx : Idx)
  /-- SETCPX flag, 48_cmd_control.md R183. -/
  | setcpx (idx : Idx)
deriving DecidableEq, Repr

end Sys2Proof
end

