-- ==== Sys2Proof/WellFormed.lean ====
section
/-! DEFINITION. Which terms of `Instr` stand for a legal command word. -/

namespace Sys2Proof

/-- A term is well-formed when its fields can stand in a legal word. The one condition of the table
is SETP's `IDX <= 13` (30_encoding.md R62); every other operand admits every value (R61, R65). -/
def Instr.wellFormed : Instr → Bool
  | .nop => true
  | .prepare _ _ => true
  | .reset => true
  | .process _ _ => true
  | .rdstat => true
  | .setp idx _ => decide (idx.toNat ≤ 13)
  | .setmode _ => true
  | .setfrz _ => true
  | .setcpx _ => true

end Sys2Proof
end

