-- ==== Sys2Proof/Decode.lean ====
section
/-! DEFINITION. Decoding and encoding of `CMD96` words (spec/30_encoding.md R60 to R70). -/

namespace Sys2Proof

/-- Why a word is illegal (30_encoding.md R64). -/
inductive Illegal where
  /-- `RSV` is not zero. -/
  | reservedBits
  /-- `IDX` is not zero on NOP, PREPARE, RESET, PROCESS or RDSTAT. -/
  | indexNotZero
  /-- `IDX` is above 13 on SETP. -/
  | noSuchParameter
  /-- `OPC` is not one of the nine. -/
  | unassignedOpcode
deriving DecidableEq, Repr

/-- `OPC = cmd[95:88]` (R60). -/
def fieldOpc (cmd : CmdWord) : BitVec 8 := cmd.extractLsb' 88 8

/-- `IDX = cmd[87:80]` (R60). -/
def fieldIdx (cmd : CmdWord) : Idx := cmd.extractLsb' 80 8

/-- `RSV = cmd[79:64]` (R60). -/
def fieldRsv (cmd : CmdWord) : BitVec 16 := cmd.extractLsb' 64 16

/-- `A = cmd[63:32]` (R60). -/
def fieldA (cmd : CmdWord) : Operand := cmd.extractLsb' 32 32

/-- `B = cmd[31:0]` (R60). -/
def fieldB (cmd : CmdWord) : Operand := cmd.extractLsb' 0 32

/-- The decode procedure of R70, total on every 96-bit word. -/
def decode (cmd : CmdWord) : Except Illegal Instr :=
  let opc := fieldOpc cmd
  let idx := fieldIdx cmd
  if fieldRsv cmd ≠ 0 then .error .reservedBits
  else if opc.toNat ≤ 4 ∧ idx ≠ 0 then .error .indexNotZero
  else if opc = 0x00 then .ok .nop
  else if opc = 0x01 then .ok (.prepare (fieldA cmd) (fieldB cmd))
  else if opc = 0x02 then .ok .reset
  else if opc = 0x03 then .ok (.process (fieldA cmd) (fieldB cmd))
  else if opc = 0x04 then .ok .rdstat
  else if opc = 0x10 then
    if idx.toNat ≤ 13 then .ok (.setp idx (fieldA cmd)) else .error .noSuchParameter
  else if opc = 0x11 then .ok (.setmode idx)
  else if opc = 0x12 then .ok (.setfrz idx)
  else if opc = 0x13 then .ok (.setcpx idx)
  else .error .unassignedOpcode

/-- A word assembled from its fields, the reserved field zero (R60). -/
def assemble (opc : BitVec 8) (idx : Idx) (a b : Operand) : CmdWord :=
  opc ++ idx ++ (0 : BitVec 16) ++ a ++ b

/-- The word of a command; fields it ignores are assembled as zero (R61, R62, R67). -/
def encode : Instr → CmdWord
  | .nop => assemble 0x00 0 0 0
  | .prepare rate block => assemble 0x01 0 rate block
  | .reset => assemble 0x02 0 0 0
  | .process left right => assemble 0x03 0 left right
  | .rdstat => assemble 0x04 0 0 0
  | .setp idx value => assemble 0x10 idx value 0
  | .setmode idx => assemble 0x11 idx 0 0
  | .setfrz idx => assemble 0x12 idx 0 0
  | .setcpx idx => assemble 0x13 idx 0 0

/-- The word the host's table bits stand for: one 96-bit number with bit 0 least significant, the
bits above `nbits` zero (30_encoding.md R60; spec/opcode_table.json). -/
def tableWord (nbits w : Nat) : CmdWord := BitVec.ofNat 96 (w % 2 ^ nbits)

/-- What the decoder reads from the bits of an opcode-table row. -/
def decodeTableWord (nbits w : Nat) : Option Instr :=
  match decode (tableWord nbits w) with
  | .ok i => some i
  | .error _ => none

end Sys2Proof
end

