-- ==== Sys2Proof/Config.lean ====
section
/-! DEFINITION. The record `NUM`, the record `CFG` and the one free value. The reference values stand
in Sys2Proof/Machine/Reference.lean. -/

namespace Sys2Proof

/-- The four transcendental functions of the record `NUM` (40_numerics.md R86 to R88), a parameter of
the model (93_implementation_defined.md S8; log entry 1). -/
structure Num where
  /-- `10^x`, R86. -/
  pow10 : F32 → F32
  /-- `e^x`, R87. -/
  fexp : F32 → F32
  /-- `sin(2 pi t)`, R88. -/
  sin2pi : F32 → F32
  /-- `cos(2 pi t)`, R88. -/
  cos2pi : F32 → F32

/-- One row of the preset ROM (10_state.md R32): the defaults SETMODE writes into `PT[6..10]`. -/
structure Preset where
  xlo : F32
  xhi : F32
  modrate : F32
  moddepth : F32
  diffusion : F32
deriving DecidableEq, Repr

/-- The configuration record `CFG` (00_scope.md R6, 10_state.md section 8). The structural counts
(8 slots, 2 channels of 4 stages, 14 parameters, 10 modes) are fixed by the types
(93_implementation_defined.md U5, U10). -/
structure Config where
  /-- Words per FDN line, at most `2^15`. -/
  capDl : Nat
  /-- Words per allpass line, at most `2^12`. -/
  capAp : Nat
  fsMin : F32
  fsMax : F32
  fsDefault : F32
  fsRef : F32
  rt60Min : F32
  /-- `RT60_MAX`: the upper end of DECAY's range, `PMAX[0]`. No rule reads it by this name. -/
  rt60Max : F32
  fbLimit : F32
  inLimit : F32
  smoothTime : F32
  rampMax : Nat
  dMin : F32
  tMax : F32
  apModScale : F32
  outScale : F32
  cpxWa : F32
  cpxWb : F32
  cpxWn : F32
  hscale : F32
  twoPi : F32
  lfsrSeed : BitVec 32
  lfsrTaps : BitVec 32
  /-- `PMIN`, 10_state.md R31. -/
  pmin : Vector F32 14
  /-- `PMAX`, R31. -/
  pmax : Vector F32 14
  /-- `PDEF`, R31. -/
  pdef : Vector F32 14
  /-- `BASE48[m][i]`, R32. -/
  base48 : Vector (Vector Nat 8) 10
  /-- `PRESET[m]`, R32. -/
  preset : Vector Preset 10
  /-- `AP48[c][k]`, R35. -/
  ap48 : Vector (Vector Nat 4) 2
  /-- `LFO_RATIO[j]`, R33. -/
  lfoRatio : Vector F32 10
  /-- `LFO_PHASE0[j]`, R33. -/
  lfoPhase0 : Vector F32 10
  /-- `LFO2_RATIO[i]`, R33. -/
  lfo2Ratio : Vector F32 8
  /-- `LFO2_PHASE0[i]`, R33. -/
  lfo2Phase0 : Vector F32 8
  /-- `INJ_L`, `INJ_R`, `OUT_L`, `OUT_R`, R34. -/
  injL : Vector F32 8
  injR : Vector F32 8
  outL : Vector F32 8
  outR : Vector F32 8
  /-- The record `NUM`, 40_numerics.md. -/
  num : Num

/-- FREE VALUE. Which NaN an invalid operation, or an operation on a NaN, gives: 40_numerics.md R82
says "a NaN" and no more. A function of the operation (0 add, 1 subtract, 2 multiply, 3 divide, 4 a
function of `NUM`) and its operands, since the step is a function (70_reset_and_hazards.md R224).
Log entry 4. -/
opaque Config.freeNaN : Nat → F32 → F32 → F32

end Sys2Proof
end

