-- ==== Sys2Proof/Machine/Numerics.lean ====
section
/-! DEFINITION. Binary32 arithmetic and integer conversions (spec/40_numerics.md R80 to R85, R90, R91).

Every finite number is an integer multiple of `2^-149`; the operations convert to that integer,
compute exactly and round once. -/

namespace Sys2Proof.Machine

/-- Bit 31, the sign `s` (R80). -/
def signBit (v : F32) : Bool := v.getLsbD 31

/-- Bits 30:23, the biased exponent `e` (R80). -/
def expField (v : F32) : Nat := v.toNat / 2 ^ 23 % 2 ^ 8

/-- Bits 22:0, the fraction `f` (R80). -/
def fracField (v : F32) : Nat := v.toNat % 2 ^ 23

/-- Bits 30:0: orders the magnitudes of all numbers that are not NaN. -/
def magBits (v : F32) : Nat := v.toNat % 2 ^ 31

/-- The magnitude bits of the infinities, `e = 255`, `f = 0` (R80). -/
def infMag : Nat := 0x7F800000

/-- `e = 255, f != 0` (R80); the same as `v != v` (R83). -/
def isNaN (v : F32) : Bool := decide (infMag < magBits v)

def isInf (v : F32) : Bool := decide (magBits v = infMag)

def isFinite (v : F32) : Bool := decide (magBits v < infMag)

def isZero (v : F32) : Bool := decide (magBits v = 0)

/-- `e = 0, f != 0` (R80). -/
def isSubnormal (v : F32) : Bool := decide (0 < magBits v ∧ magBits v < 2 ^ 23)

/-- The number with a given sign and given bits 30:0. -/
def withSign (s : Bool) (mag : Nat) : F32 := BitVec.ofNat 32 (mag + if s then 2 ^ 31 else 0)

/-- `+0.0` (R90). -/
def fzero : F32 := 0x00000000#32

/-- `0.5` (R90). -/
def fhalf : F32 := 0x3F000000#32

/-- `1.0` (R90). -/
def fone : F32 := 0x3F800000#32

/-- `2.0` (R90). -/
def ftwo : F32 := 0x40000000#32

/-- Flush to zero: a subnormal number becomes the zero of its sign (R81). -/
def ftz (v : F32) : F32 := if isSubnormal v then withSign (signBit v) 0 else v

/-- The same function, applied to operands (R81). -/
def daz (v : F32) : F32 := ftz v

/-- `|v|` in units of `2^-149`, for finite `v` (R80). -/
def scaledMag (v : F32) : Nat :=
  if expField v = 0 then fracField v else (2 ^ 23 + fracField v) * 2 ^ (expField v - 1)

/-- The finite number `v` in units of `2^-149` (R80). -/
def scaled (v : F32) : Int := if signBit v then -(scaledMag v : Int) else scaledMag v

/-- The integer nearest to `p / q`, ties to the even one (R81). -/
def roundHalfEven (p q : Nat) : Nat :=
  let n := p / q
  let r := p % q
  if 2 * r < q then n else if q < 2 * r then n + 1 else n + n % 2

/-- Bits 30:0 of the binary32 number nearest to `(p / q) * 2^-149`, ties to even, overflowing to
infinity (R81). A magnitude with `2^(23+k) <= p/q < 2^(24+k)` has spacing `2^k`; below `2^23` the
spacing is one. A rounding up to the next power of two carries into the exponent. -/
def rndMag (p q : Nat) : Nat :=
  let k := Nat.log2 (p / q) - 23
  min (k * 2 ^ 23 + roundHalfEven p (q * 2 ^ k)) infMag

/-- `rnd` of R81 on a non-zero magnitude `(p / q) * 2^-149` with its sign. -/
def rnd (s : Bool) (p q : Nat) : F32 := withSign s (rndMag p q)

/-- The quiet NaN that stands in where the free value is no NaN: R82 says the result is a NaN. -/
def quietNaN : F32 := 0x7FC00000#32

/-- A NaN, which one being open (R82): the free value where it is a NaN (log entry 4). -/
def someNaN (op : Nat) (a b : F32) : F32 :=
  let v := Config.freeNaN op a b
  if isNaN v then v else quietNaN

/-- `fneg` inverts bit 31 and is exact (R82). -/
def fneg (a : F32) : F32 := a ^^^ 0x80000000#32

/-- The sum of two operands that are not NaN, for the operation numbered `op` (R82). -/
def addCore (op : Nat) (a b : F32) : F32 :=
  if isInf a then
    if isInf b && signBit a != signBit b then someNaN op a b else a
  else if isInf b then b
  else
    let x := scaled a + scaled b
    if x = 0 then withSign (signBit a && signBit b) 0
    else ftz (rnd (decide (x < 0)) x.natAbs 1)

/-- Addition (R82). -/
def fadd (a b : F32) : F32 :=
  if isNaN a || isNaN b then someNaN 0 a b else addCore 0 (daz a) (daz b)

/-- Subtraction (R82): the sum with the second operand's sign inverted. -/
def fsub (a b : F32) : F32 :=
  if isNaN a || isNaN b then someNaN 1 a b else addCore 1 (daz a) (fneg (daz b))

/-- The product of two operands that are not NaN (R82). -/
def mulCore (a b : F32) : F32 :=
  let s := signBit a != signBit b
  if isInf a || isInf b then
    if isZero a || isZero b then someNaN 2 a b else withSign s infMag
  else if isZero a || isZero b then withSign s 0
  else ftz (rnd s (scaledMag a * scaledMag b) (2 ^ 149))

/-- Multiplication (R82). -/
def fmul (a b : F32) : F32 :=
  if isNaN a || isNaN b then someNaN 2 a b else mulCore (daz a) (daz b)

/-- The quotient of two operands that are not NaN (R82). -/
def divCore (a b : F32) : F32 :=
  let s := signBit a != signBit b
  if isInf a then
    if isInf b then someNaN 3 a b else withSign s infMag
  else if isInf b then withSign s 0
  else if isZero b then
    if isZero a then someNaN 3 a b else withSign s infMag
  else if isZero a then withSign s 0
  else ftz (rnd s (scaledMag a * 2 ^ 149) (scaledMag b))

/-- Division (R82). -/
def fdiv (a b : F32) : F32 :=
  if isNaN a || isNaN b then someNaN 3 a b else divCore (daz a) (daz b)

/-- Orders all numbers that are not NaN: the magnitude bits with the sign, `-0` and `+0` equal (R83). -/
def orderKey (v : F32) : Int := if signBit v then -(magBits v : Int) else magBits v

/-- `a < b` (R83). -/
def flt (a b : F32) : Bool := !isNaN a && !isNaN b && decide (orderKey a < orderKey b)

/-- `a <= b` (R83). -/
def fle (a b : F32) : Bool := !isNaN a && !isNaN b && decide (orderKey a ≤ orderKey b)

/-- `a = b` (R83). -/
def feq (a b : F32) : Bool := !isNaN a && !isNaN b && decide (orderKey a = orderKey b)

/-- `a != b`: true when an operand is a NaN (R83). -/
def fne (a b : F32) : Bool := !feq a b

/-- `fmax(a, b) = a if a >= b else b` (R83). -/
def fmax (a b : F32) : F32 := if fle b a then a else b

/-- `fmin(a, b) = a if a <= b else b` (R83). -/
def fmin (a b : F32) : F32 := if fle a b then a else b

/-- `fclamp` (R84). -/
def fclamp (x lo hi : F32) : F32 :=
  if isNaN x then fzero else if flt x lo then lo else if flt hi x then hi else x

/-- "The clamp changed x" (R84). -/
def clampChanged (x lo hi : F32) : Bool := isNaN x || fne (fclamp x lo hi) x

/-- The greatest integer not above `x`, for finite `x >= 0` (R85). On a negative number it is 0, on an
infinity or a NaN the floor of the fields read as a finite number: no rule calls it there
(93_implementation_defined.md S9; log entry 10). -/
def ifloor (x : F32) : Nat := (scaled x / 2 ^ 149).toNat

/-- `i2f(n) = rnd(n)` (R85). -/
def i2f (n : Int) : F32 := if n = 0 then fzero else rnd (decide (n < 0)) (n.natAbs * 2 ^ 149) 1

/-- `iround(x) = ifloor(fadd(x, 0.5))` (R85). -/
def iround (x : F32) : Nat := ifloor (fadd x fhalf)

/-- `iclamp` (R85). -/
def iclamp (n lo hi : Int) : Int := if n < lo then lo else if hi < n then hi else n

end Sys2Proof.Machine
end

