-- ==== Sys2Proof/Machine/Transcendental.lean ====
section
/-! DEFINITION. The reference instance of `NUM` (spec/40_numerics.md R86 to R88): the correctly rounded
values of `10^x`, `e^x`, `sin(2 pi t)`, `cos(2 pi t)`, then `ftz`.

The real value is computed in fixed point with 256 fractional bits and rounded once. Log entry 2: that
256 bits suffice for correct rounding at every argument is UNVERIFIED. -/

namespace Sys2Proof.Machine

/-- Fractional bits of the fixed-point numbers of this file. -/
def fixBits : Nat := 256

/-- `ln 2` in fixed point, rounded down. -/
def fixLn2 : Nat := 0xb17217f7d1cf79abc9e3b39803f2f6af40f343267298b62d8a0d175b8baafa2b

/-- `ln 10` in fixed point, rounded down. -/
def fixLn10 : Nat := 0x24d763776aaa2b05ba95b58ae0b4c28a38a3fb3e76977e43a0f187a0807c0b5ca

/-- `pi / 2` in fixed point, rounded down. -/
def fixHalfPi : Nat := 0x1921fb54442d18469898cc51701b839a252049c1114cf98e804177d4c76273644

/-- The product of two fixed-point numbers, rounded down. -/
def fixMul (a b : Nat) : Nat := a * b / 2 ^ fixBits

/-- Terms `n+1, n+2, ...` of the series of `e^r`, added to `acc`; `term` is term `n`. -/
def expTerms : Nat → Nat → Nat → Nat → Nat → Nat
  | 0, _, _, _, acc => acc
  | fuel + 1, n, r, term, acc =>
    let t := fixMul term r / (n + 1)
    expTerms fuel (n + 1) r t (acc + t)

/-- `e^r` in fixed point, for `0 <= r <= ln 2`. -/
def fixExp (r : Nat) : Nat := expTerms 64 0 r (2 ^ fixBits) (2 ^ fixBits)

/-- `e^y` rounded, for `y` in fixed point of moderate size: `y = k ln 2 + r` with `0 <= r <= ln 2`. -/
def expRounded (y : Int) : F32 :=
  let a := y.natAbs
  if 0 ≤ y then
    ftz (rnd false (fixExp (a % fixLn2) * 2 ^ (149 + a / fixLn2)) (2 ^ fixBits))
  else
    let k := a / fixLn2 + 1
    ftz (rnd false (fixExp (k * fixLn2 - a) * 2 ^ 149) (2 ^ (fixBits + k)))

/-- `x` in fixed point, exactly (256 fractional bits hold every binary32 number). -/
def toFix (x : F32) : Int := scaled x * 2 ^ (fixBits - 149)

/-- `e^x` for an argument scaled by `c` (`c = 1` or `ln 10`, in fixed point): beyond 128 in magnitude
the result is certainly an infinity or flushed to zero. DESIGN CHOICE where
93_implementation_defined.md S9 leaves it open: an infinity gives the limit, a NaN a NaN (log entry 10). -/
def expScaled (c : Nat) (x : F32) : F32 :=
  if isNaN x then someNaN 4 x fzero
  else if flt 0x43000000#32 x then withSign false infMag
  else if flt x 0xC3000000#32 then fzero
  else
    let y := toFix x * c
    expRounded (if 0 ≤ y then y / 2 ^ fixBits else -(-y / 2 ^ fixBits))

/-- The reference `fexp` (R87). -/
def refFexp (x : F32) : F32 := expScaled (2 ^ fixBits) x

/-- The reference `pow10` (R86), as `e^(x ln 10)`. -/
def refPow10 (x : F32) : F32 := expScaled fixLn10 x

/-- Terms of the sine series after the term numbered `k`, alternately subtracted and added. -/
def sinTerms : Nat → Nat → Nat → Nat → Bool → Int → Int
  | 0, _, _, _, _, acc => acc
  | fuel + 1, k, sq, term, neg, acc =>
    let t := fixMul term sq / ((2 * k + 2) * (2 * k + 3))
    sinTerms fuel (k + 1) sq t (!neg) (if neg then acc - t else acc + t)

/-- `sin(f pi / 2)` in fixed point, for `f` in `[0, 1]` in fixed point. -/
def quarterSin (f : Nat) : Nat :=
  let theta := fixMul f fixHalfPi
  (sinTerms 36 0 (fixMul theta theta) theta true theta).toNat

/-- A fixed-point number rounded, the exact zero as `+0.0` (R88 (b)). -/
def roundFix (neg : Bool) (y : Nat) : F32 :=
  if y = 0 then fzero else ftz (rnd neg (y * 2 ^ 149) (2 ^ fixBits))

/-- `sin(2 pi t + quarters * pi / 2)` for finite `t`: the turn is taken modulo one and split into a
quarter and the exact remainder, which is reflected in the odd quarters. -/
def turnSin (quarters : Nat) (t : F32) : F32 :=
  let whole : Nat := 2 ^ fixBits
  let turn := (toFix t % (whole : Int)).toNat
  let quarter := (4 * turn / whole + quarters) % 4
  let f := 4 * turn % whole
  roundFix (decide (2 ≤ quarter)) (quarterSin (if quarter % 2 = 0 then f else whole - f))

/-- The reference `sin2pi` (R88). DESIGN CHOICE outside `[0, 1)`, which 93_implementation_defined.md S9 leaves
open: a finite argument is taken modulo one, an infinity or a NaN gives a NaN (log entry 10). -/
def refSin2pi (t : F32) : F32 := if isFinite t then turnSin 0 t else someNaN 4 t fzero

/-- The reference `cos2pi` (R88): the sine a quarter turn on. DESIGN CHOICE outside `[0, 1)`, as for `sin2pi`
(log entry 10). -/
def refCos2pi (t : F32) : F32 := if isFinite t then turnSin 1 t else someNaN 4 t fone

/-- The reference instance of `NUM` (R86 to R88; 92 D2). -/
def refNum : Num where
  pow10 := refPow10
  fexp := refFexp
  sin2pi := refSin2pi
  cos2pi := refCos2pi

end Sys2Proof.Machine
end

