-- ==== Sys2Proof/Machine/Reference.lean ====
section
/-! DEFINITION. `REFCFG`, the configuration of this hardware (spec/00_scope.md R6, spec/10_state.md R31 to
R35). -/

namespace Sys2Proof.Machine

/-- `PMIN` (10_state.md R31). -/
def refPmin : Vector F32 14 :=
  #v[0x3DCCCCCD#32, 0x3E800000#32, 0x00000000#32, 0x3DCCCCCD#32, 0x3DCCCCCD#32, 0x3DCCCCCD#32, 0x41A00000#32,
    0x447A0000#32, 0x3C23D70A#32, 0x00000000#32, 0x00000000#32, 0x41A00000#32, 0x3DCCCCCD#32, 0xC1900000#32]

/-- `PMAX` (R31). -/
def refPmax : Vector F32 14 :=
  #v[0x41F00000#32, 0x40000000#32, 0x3F800000#32, 0x40800000#32, 0x40800000#32, 0x40800000#32, 0x447A0000#32,
    0x469C4000#32, 0x41200000#32, 0x40000000#32, 0x3F400000#32, 0x469C4000#32, 0x41200000#32, 0x00000000#32]

/-- `PDEF` (R31). -/
def refPdef : Vector F32 14 :=
  #v[0x40000000#32, 0x3F800000#32, 0x00000000#32, 0x3F800000#32, 0x3F800000#32, 0x3F800000#32, 0x437A0000#32,
    0x45BB8000#32, 0x3F99999A#32, 0x3E99999A#32, 0x3F333333#32, 0x447A0000#32, 0x3F800000#32, 0x00000000#32]

/-- `BASE48` (R32), one row a mode. -/
def refBase48 : Vector (Vector Nat 8) 10 :=
  #v[#v[389, 479, 587, 727, 907, 1103, 1361, 1693],
    #v[487, 599, 739, 919, 1151, 1409, 1747, 2161],
    #v[967, 1163, 1409, 1693, 2053, 2473, 2999, 3607],
    #v[577, 709, 877, 1063, 1303, 1597, 1973, 2411],
    #v[1447, 1657, 1907, 2203, 2531, 2903, 3343, 3847],
    #v[193, 251, 307, 383, 487, 607, 769, 967],
    #v[877, 1049, 1277, 1549, 1877, 2281, 2767, 3361],
    #v[727, 877, 1049, 1259, 1523, 1823, 2203, 2647],
    #v[433, 577, 761, 1009, 1361, 1777, 2357, 3121],
    #v[1061, 1277, 1523, 1823, 2179, 2609, 3137, 3761]]

/-- `PRESET` (R32), one row a mode: crossover low and high, rate, depth, diffusion. -/
def refPreset : Vector Preset 10 :=
  #v[⟨0x437A0000#32, 0x45BB8000#32, 0x3F99999A#32, 0x3E99999A#32, 0x3F333333#32⟩,
    ⟨0x43480000#32, 0x459C4000#32, 0x3F4CCCCD#32, 0x3E4CCCCD#32, 0x3F19999A#32⟩,
    ⟨0x43960000#32, 0x458CA000#32, 0x3F000000#32, 0x3ECCCCCD#32, 0x3F266666#32⟩,
    ⟨0x437A0000#32, 0x45ABE000#32, 0x3F333333#32, 0x3E800000#32, 0x3F266666#32⟩,
    ⟨0x43AF0000#32, 0x455AC000#32, 0x3E99999A#32, 0x3F000000#32, 0x3F333333#32⟩,
    ⟨0x43480000#32, 0x45DAC000#32, 0x3F800000#32, 0x3DCCCCCD#32, 0x3F000000#32⟩,
    ⟨0x43960000#32, 0x460CA000#32, 0x3F000000#32, 0x3ECCCCCD#32, 0x3F266666#32⟩,
    ⟨0x437A0000#32, 0x459C4000#32, 0x3FE66666#32, 0x3F99999A#32, 0x3F19999A#32⟩,
    ⟨0x437A0000#32, 0x459C4000#32, 0x40200000#32, 0x3F4CCCCD#32, 0x3F19999A#32⟩,
    ⟨0x43C80000#32, 0x453B8000#32, 0x3F19999A#32, 0x3F19999A#32, 0x3F0CCCCD#32⟩]

/-- `AP48` (R35), left then right. -/
def refAp48 : Vector (Vector Nat 4) 2 := #v[#v[229, 173, 613, 449], #v[239, 181, 631, 467]]

/-- `LFO_RATIO` (R33). -/
def refLfoRatio : Vector F32 10 :=
  #v[0x3F800000#32, 0x3F90A3D7#32, 0x3F5EB852#32, 0x3FA7AE14#32, 0x3F4A3D71#32, 0x3FBC28F6#32, 0x3F35C28F#32,
    0x3FCE147B#32, 0x3F07AE14#32, 0x3F170A3D#32]

/-- `LFO_PHASE0` (R33). -/
def refLfoPhase0 : Vector F32 10 :=
  #v[0x00000000#32, 0x3E000000#32, 0x3E800000#32, 0x3EC00000#32, 0x3F000000#32, 0x3F200000#32, 0x3F400000#32,
    0x3F600000#32, 0x00000000#32, 0x3E800000#32]

/-- `LFO2_RATIO` (R33). -/
def refLfo2Ratio : Vector F32 8 :=
  #v[0x402D70A4#32, 0x404851EC#32, 0x40128F5C#32, 0x40647AE1#32, 0x3FF70A3D#32, 0x4078F5C3#32, 0x3FE28F5C#32,
    0x4086B852#32]

/-- `LFO2_PHASE0` (R33). -/
def refLfo2Phase0 : Vector F32 8 :=
  #v[0x00000000#32, 0x3EC00000#32, 0x3F400000#32, 0x3E000000#32, 0x3F000000#32, 0x3F600000#32, 0x3E800000#32,
    0x3F200000#32]

/-- `INJ_L` and `OUT_L` (R34): the even slots with alternating sign. -/
def refLeftVector : Vector F32 8 :=
  #v[0x3F800000#32, 0#32, 0xBF800000#32, 0#32, 0x3F800000#32, 0#32, 0xBF800000#32, 0#32]

/-- `INJ_R` and `OUT_R` (R34): the odd slots with alternating sign. -/
def refRightVector : Vector F32 8 :=
  #v[0#32, 0x3F800000#32, 0#32, 0xBF800000#32, 0#32, 0x3F800000#32, 0#32, 0xBF800000#32]

/-- `REFCFG` (00_scope.md R6) with the reference `NUM`: the configuration `exec` runs. -/
def refCfg : Config where
  capDl := 32768
  capAp := 4096
  fsMin := 0x45FA0000#32
  fsMax := 0x483B8000#32
  fsDefault := 0x473B8000#32
  fsRef := 0x473B8000#32
  rt60Min := 0x3DCCCCCD#32
  rt60Max := 0x41F00000#32
  fbLimit := 0x40000000#32
  inLimit := 0x40000000#32
  smoothTime := 0x3CA3D70A#32
  rampMax := 65535
  dMin := 0x3F800000#32
  tMax := 0x3EE66666#32
  apModScale := 0x3F000000#32
  outScale := 0x3F000000#32
  cpxWa := 0x3F200000#32
  cpxWb := 0x3EA00000#32
  cpxWn := 0x3D800000#32
  hscale := 0x3EB504F3#32
  twoPi := 0x40C90FDB#32
  lfsrSeed := 0xACE1ACE1#32
  lfsrTaps := 0x80200003#32
  pmin := refPmin
  pmax := refPmax
  pdef := refPdef
  base48 := refBase48
  preset := refPreset
  ap48 := refAp48
  lfoRatio := refLfoRatio
  lfoPhase0 := refLfoPhase0
  lfo2Ratio := refLfo2Ratio
  lfo2Phase0 := refLfo2Phase0
  injL := refLeftVector
  injR := refRightVector
  outL := refLeftVector
  outR := refRightVector
  num := refNum

end Sys2Proof.Machine
end

