-- ==== Sys2Proof/Machine/Registers.lean ====
section
/-! DEFINITION. The groups of architectural state (spec/10_state.md R10), as plain data. -/

namespace Sys2Proof.Machine

/-- The ten reverb modes, in the order of their numbers 0 to 9 (10_state.md R30). -/
inductive Mode where
  | plate
  | room
  | hall
  | chamber
  | cathedral
  | ambience
  | brightHall
  | chorusSpace
  | randomSpace
  | dirtyHall
deriving DecidableEq, Repr

/-- Target registers, written by the control commands only (10_state.md R11, R13). -/
structure Targets where
  /-- `PT[0..13]`. -/
  pt : Vector F32 14
  /-- `MODE_T`. -/
  modeT : Mode
  /-- `FRZ_T`. -/
  frzT : Bool
  /-- `CPX_T`. -/
  cpxT : Bool
deriving DecidableEq, Repr

/-- Configuration registers, written by PREPARE only (10_state.md R14). -/
structure Setup where
  /-- `PREPARED`. -/
  prepared : Bool
  /-- `FS`, Hz. -/
  fs : F32
  /-- `MAXBLK`, an I32. -/
  maxblk : BitVec 32
  /-- `FSK`. -/
  fsk : F32
  /-- `FSM`. -/
  fsm : F32
  /-- `RAMP`, a U16. -/
  ramp : BitVec 16
  /-- `APLEN[c][k]`, each a U12. -/
  aplen : Vector (Vector (BitVec 12) 4) 2
deriving DecidableEq, Repr

/-- Active controls (10_state.md R13). -/
structure Active where
  /-- `MODE`. -/
  mode : Mode
  /-- `FRZ`. -/
  frz : Bool
  /-- `CPX`. -/
  cpx : Bool
deriving DecidableEq, Repr

/-- `STICKY[13:8]`, the six sticky event bits (10_state.md R16). -/
structure Sticky where
  /-- Bit 8, `S_PCL`: a parameter write was altered or dropped. -/
  pcl : Bool
  /-- Bit 9, `S_ICL`: an input sample was altered. -/
  icl : Bool
  /-- Bit 10, `S_DCL`: a delay request or a nominal length was clamped. -/
  dcl : Bool
  /-- Bit 11, `S_FCL`: the feedback clamp changed a value. -/
  fcl : Bool
  /-- Bit 12, `S_PFAIL`: PREPARE was refused. -/
  pfail : Bool
  /-- Bit 13, `S_ILL`: an illegal word was ignored. -/
  ill : Bool
deriving DecidableEq, Repr

/-- One smoother record `SM[k]` (10_state.md R17). -/
structure Smoother where
  cur : F32
  tgt : F32
  inc : F32
  /-- Samples left in the ramp, a U16; 0 means idle. -/
  cnt : BitVec 16
deriving DecidableEq, Repr

/-- Coefficient registers (10_state.md R18). -/
structure Coeffs where
  /-- `LEN[i]`. -/
  len : Vector F32 8
  rtl : F32
  rtm : F32
  rth : F32
  /-- `GL[i]`, `GM[i]`, `GH[i]`. -/
  gl : Vector F32 8
  gm : Vector F32 8
  gh : Vector F32 8
  clo : F32
  chi : F32
  b0 : F32
  b1 : F32
  b2 : F32
  a1 : F32
  a2 : F32
deriving DecidableEq, Repr

/-- Filter state of one slot: `LP1[i]`, `LP2[i]`, `Z1[i]`, `Z2[i]` (10_state.md R19). -/
structure SlotFilter where
  lp1 : F32
  lp2 : F32
  z1 : F32
  z2 : F32
deriving DecidableEq, Repr

/-- Modulation state (10_state.md R20). -/
structure Modulation where
  /-- `PHA[0..9]`. -/
  pha : Vector F32 10
  /-- `PHB[0..7]`. -/
  phb : Vector F32 8
  /-- `LFSR`. -/
  lfsr : BitVec 32
deriving DecidableEq, Repr

/-- The words of a delay memory that are not `+0.0`, by rising index; an unlisted word is `+0.0`
(10_state.md R21, 20_memory.md R40, R41; log entry 8). -/
abbrev Memory := List (Nat × F32)

/-- A delay line: its memory and its head pointer of `w` bits (10_state.md R21). -/
structure Line (w : Nat) where
  buf : Memory
  head : BitVec w
deriving DecidableEq, Repr

/-- What the response port holds (30_encoding.md R66). -/
inductive Response where
  /-- `RSP64` of PROCESS, a whole number with bit 0 least significant (20_memory.md R45). -/
  | audio (word : BitVec 64)
  /-- `RSP32` of RDSTAT, likewise. -/
  | status (word : BitVec 32)
deriving DecidableEq, Repr

/-- What arrives from outside: a word on the command port, or the reset input RST
(20_memory.md R50, 70_reset_and_hazards.md R220; log entries 5, 7). -/
inductive Input where
  | word (cmd : CmdWord)
  | rst
deriving DecidableEq, Repr

end Sys2Proof.Machine
end

