-- ==== Sys2Proof/Machine/Coefficients.lean ====
section
/-! DEFINITION. The values derived from parameters, mode and sample rate: RECOMPUTE
(spec/43_decay_filter.md R121 to R125), DERIVEFS (spec/47_cmd_lifecycle.md R175) and the values after
SNAP, as functions of plain values. -/

namespace Sys2Proof.Machine

/-- The number of a mode (10_state.md R30). -/
def modeIndex : Mode → Fin 10
  | .plate => 0
  | .room => 1
  | .hall => 2
  | .chamber => 3
  | .cathedral => 4
  | .ambience => 5
  | .brightHall => 6
  | .chorusSpace => 7
  | .randomSpace => 8
  | .dirtyHall => 9

/-- `-3.0` (40_numerics.md R90). -/
def fminus3 : F32 := 0xC0400000#32

/-- `-2.0` (R90). -/
def fminus2 : F32 := 0xC0000000#32

/-- `40.0` (R90). -/
def forty : F32 := 0x42200000#32

/-- `1000.0` (R90). -/
def thousand : F32 := 0x447A0000#32

/-- `32768.0` (R90). -/
def f32768 : F32 := 0x47000000#32

/-- `RTL`, `RTM`, `RTH` from the current values (43_decay_filter.md R121). -/
def bandTimes (c : Config) (cur : Vector F32 14) : F32 × F32 × F32 :=
  (fmax c.rt60Min (fmul cur[0] cur[3]),
    fmax c.rt60Min (fmul cur[0] cur[4]),
    fmax c.rt60Min (fmul (fmul cur[0] cur[5]) (fsub fone cur[2])))

/-- The unclamped nominal length of slot `i` (R125). -/
def rawLength (c : Config) (mode : Mode) (fsk roomsize : F32) (i : Fin 8) : F32 :=
  fmul (fmul (i2f (c.base48[modeIndex mode][i])) roomsize) fsk

/-- The upper bound of a delay request to an FDN line, `i2f(CAP_DL - 1)`. -/
def maxDelayDl (c : Config) : F32 := i2f (c.capDl - 1)

/-- The upper bound of a delay request to an allpass line, `i2f(CAP_AP - 1)`. -/
def maxDelayAp (c : Config) : F32 := i2f (c.capAp - 1)

/-- The decay gain of a slot of nominal length `len` for a band time `rt` (R122). -/
def decayGain (c : Config) (fs len rt : F32) : F32 :=
  c.num.pow10 (fdiv (fmul fminus3 (fdiv len fs)) rt)

/-- A crossover coefficient for a corner frequency (R123). -/
def crossoverCoeff (c : Config) (fs corner : F32) : F32 :=
  fsub fone (c.num.fexp (fmul (fneg c.twoPi) (fdiv corner fs)))

/-- The five peaking coefficients. -/
structure Peaking where
  b0 : F32
  b1 : F32
  b2 : F32
  a1 : F32
  a2 : F32
deriving DecidableEq, Repr

/-- The peaking section's coefficients (R124). -/
def peaking (c : Config) (fs f0 q gdb : F32) : Peaking :=
  let t := fmin (fdiv f0 fs) c.tMax
  let sn := c.num.sin2pi t
  let cs := c.num.cos2pi t
  let amp := c.num.pow10 (fdiv gdb forty)
  let alpha := fdiv sn (fmul ftwo q)
  let aA := fmul alpha amp
  let adA := fdiv alpha amp
  let a0 := fadd fone adA
  let b1 := fdiv (fmul fminus2 cs) a0
  { b0 := fdiv (fadd fone aA) a0
    b1 := b1
    b2 := fdiv (fsub fone aA) a0
    a1 := b1
    a2 := fdiv (fsub fone adA) a0 }

/-- `LEN[i]`: the clamped nominal length (R125). -/
def nominalLength (c : Config) (mode : Mode) (fsk roomsize : F32) (i : Fin 8) : F32 :=
  fclamp (rawLength c mode fsk roomsize i) c.dMin (maxDelayDl c)

/-- RECOMPUTE: every coefficient register from the current values (R125). -/
def coeffsOf (c : Config) (mode : Mode) (fs fsk : F32) (cur : Vector F32 14) : Coeffs :=
  let rt := bandTimes c cur
  let len := Vector.ofFn (nominalLength c mode fsk cur[1])
  let pk := peaking c fs cur[11] cur[12] cur[13]
  { len := len
    rtl := rt.1
    rtm := rt.2.1
    rth := rt.2.2
    gl := len.map (decayGain c fs · rt.1)
    gm := len.map (decayGain c fs · rt.2.1)
    gh := len.map (decayGain c fs · rt.2.2)
    clo := crossoverCoeff c fs cur[6]
    chi := crossoverCoeff c fs cur[7]
    b0 := pk.b0
    b1 := pk.b1
    b2 := pk.b2
    a1 := pk.a1
    a2 := pk.a2 }

/-- Whether RECOMPUTE clamps a nominal length and so sets `S_DCL` (R125). -/
def lengthClamped (c : Config) (mode : Mode) (fsk roomsize : F32) : Bool :=
  (Vector.ofFn fun i => fne (nominalLength c mode fsk roomsize i) (rawLength c mode fsk roomsize i)).any id

/-- `RAMP` (46_param_smoothing.md R167). -/
def rampLength (c : Config) (fs : F32) : BitVec 16 :=
  BitVec.ofInt 16 (iclamp (iround (fmul c.smoothTime fs)) 1 c.rampMax)

/-- `APLEN[c][k]` (42_allpass_diffuser.md R113). -/
def stageLength (c : Config) (fsk : F32) (ch : Fin 2) (k : Fin 4) : BitVec 12 :=
  BitVec.ofInt 12 (iclamp (iround (fmul (i2f (c.ap48[ch][k])) fsk)) 1 (c.capAp - 1))

/-- DERIVEFS: the registers that depend on the sample rate, beside those given (R175). -/
def deriveFs (c : Config) (prepared : Bool) (fs : F32) (maxblk : BitVec 32) : Setup :=
  let fsk := fdiv fs c.fsRef
  { prepared := prepared
    fs := fs
    maxblk := maxblk
    fsk := fsk
    fsm := fdiv fs thousand
    ramp := rampLength c fs
    aplen := Vector.ofFn fun ch => Vector.ofFn fun k => stageLength c fsk ch k }

/-- A smoother after SNAP: idle on its target (46_param_smoothing.md R164). -/
def snapped (t : F32) : Smoother := { cur := t, tgt := t, inc := fzero, cnt := 0 }

/-- The current values `SM[k].cur`. -/
def currents (sm : Vector Smoother 14) : Vector F32 14 := sm.map Smoother.cur

/-- A slot's filter state after CLEARFILTERS (43_decay_filter.md R129). -/
def clearFilter : SlotFilter := { lp1 := fzero, lp2 := fzero, z1 := fzero, z2 := fzero }

/-- The modulation state after ENGINECLEAR (47_cmd_lifecycle.md R174). -/
def clearModulation (c : Config) : Modulation :=
  { pha := c.lfoPhase0, phb := c.lfo2Phase0, lfsr := c.lfsrSeed }

/-- A line after `clear`: every word `+0.0`, the head at 0 (41_delay_line.md R104). -/
def clearLine {w : Nat} : Line w := { buf := [], head := 0 }

end Sys2Proof.Machine
end

