-- ==== Sys2Proof/Machine/State.lean ====
section
/-! DEFINITION. The state of FDNCORE, the reasons a step can stop, and the state after RST. -/

namespace Sys2Proof.Machine

/-- The complete architectural state (spec/10_state.md R10), one field a group, and the model's own two
fields `inputs` and `rsp` (log entry 5). -/
structure State where
  /-- `PT`, `MODE_T`, `FRZ_T`, `CPX_T`. -/
  targets : Targets
  /-- `PREPARED`, `FS`, `MAXBLK`, `FSK`, `FSM`, `RAMP`, `APLEN`. -/
  setup : Setup
  /-- `MODE`, `FRZ`, `CPX`. -/
  active : Active
  /-- `STICKY[13:8]`. -/
  sticky : Sticky
  /-- `SM[0..13]`. -/
  smoothers : Vector Smoother 14
  /-- The coefficient registers. -/
  coeffs : Coeffs
  /-- `LP1`, `LP2`, `Z1`, `Z2` of the eight slots. -/
  filters : Vector SlotFilter 8
  /-- `PHA`, `PHB`, `LFSR`. -/
  modulation : Modulation
  /-- `DL[0..7]`. -/
  dl : Vector (Line 15) 8
  /-- `AP[0..1][0..3]`. -/
  ap : Vector (Vector (Line 12) 4) 2
  /-- MODEL: the response to the last accepted input (30_encoding.md R66). -/
  rsp : Option Response
  /-- MODEL: the inputs not yet accepted, in the order of 20_memory.md R50. -/
  inputs : List Input
deriving DecidableEq, Repr

/-- No constructor: no command raises an exception and no access outside a line is ever formed
(spec/60_exceptions.md R200, R204; spec/20_memory.md R44), so no step of the model ends in a fault.
Nobody raises it; that is safe, since the type rules a fault out. -/
inductive Fault
deriving DecidableEq, Repr

/-- Why a step would answer nothing. -/
inductive Refusal where
  /-- Raised by an arm of `exec` whose instruction has no meaning yet; no arm is one. Safe: the model
  stops where the hardware goes on. -/
  | notModelled (mnemonic : String)
deriving DecidableEq, Repr

/-- The state after RST under a configuration (spec/10_state.md R36, spec/70_reset_and_hazards.md R220). -/
def State.resetWith (c : Config) : State :=
  let setup := deriveFs c false c.fsDefault 0
  { targets := { pt := c.pdef, modeT := .plate, frzT := false, cpxT := false }
    setup := setup
    active := { mode := .plate, frz := false, cpx := false }
    sticky := { pcl := false, icl := false, dcl := false, fcl := false, pfail := false, ill := false }
    smoothers := c.pdef.map snapped
    coeffs := coeffsOf c .plate setup.fs setup.fsk c.pdef
    filters := Vector.replicate 8 clearFilter
    modulation := clearModulation c
    dl := Vector.replicate 8 clearLine
    ap := Vector.replicate 2 (Vector.replicate 4 clearLine)
    rsp := none
    inputs := [] }

/-- The state after RST. -/
def State.reset : State := State.resetWith refCfg

end Sys2Proof.Machine
end

