-- ==== Sys2Proof/Machine/Ops.lean ====
section
/-! DEFINITION. The named operations over memory and the ports (spec/20_memory.md R40 to R44,
spec/30_encoding.md R66). -/

namespace Sys2Proof.Machine

/-- What a word that no entry lists reads as: `+0.0` (10_state.md R21; log entry 8). -/
def unlistedWord : F32 := fzero

/-- The word at an index of a delay memory. -/
def memRead : Memory → Nat → F32
  | [], _ => unlistedWord
  | (k, v) :: m, a => if a = k then v else memRead m a

/-- The memory after one word is written. An entry equal to what an unlisted word reads as is not
kept, so that equal contents are equal lists. -/
def memWrite : Memory → Nat → F32 → Memory
  | [], a, v => if v = unlistedWord then [] else [(a, v)]
  | (k, x) :: m, a, v =>
    if a < k then if v = unlistedWord then (k, x) :: m else (a, v) :: (k, x) :: m
    else if a = k then if v = unlistedWord then m else (a, v) :: m
    else (k, x) :: memWrite m a v

/-- Whether indices rise strictly from `lo`, stay below `cap`, and no entry is an unlisted word. -/
def memRising (cap : Nat) : Nat → Memory → Bool
  | _, [] => true
  | lo, (k, v) :: m => decide (lo ≤ k) && decide (k < cap) && (v != unlistedWord) && memRising cap (k + 1) m

/-- The canonical form of a delay memory of `cap` words. -/
def Memory.wf (cap : Nat) (m : Memory) : Bool := memRising cap 0 m

/-- `RamRead(L, a)` (20_memory.md R42). -/
def ramRead {w : Nat} (l : Line w) (a : Nat) : F32 := memRead l.buf a

/-- `RamWrite(L, a, v)` (20_memory.md R43). -/
def ramWrite {w : Nat} (l : Line w) (a : Nat) (v : F32) : Line w := { l with buf := memWrite l.buf a v }

/-- `RSP64 = {outL, outR}`: `outputLeft` in bits 63:32, `outputRight` in bits 31:0 (30_encoding.md R66). -/
def rsp64 (outL outR : F32) : BitVec 64 := outL ++ outR

/-- `outputLeft` of an `RSP64` (30_encoding.md R66). -/
def outputLeft (w : BitVec 64) : F32 := w.extractLsb' 32 32

/-- `outputRight` of an `RSP64` (30_encoding.md R66). -/
def outputRight (w : BitVec 64) : F32 := w.extractLsb' 0 32

/-- `emit v`: this command's response is `v` (30_encoding.md R66). -/
def emit (v : Response) (s : State) : State := { s with rsp := some v }

/-- The command produces no response (30_encoding.md R66). -/
def noResponse (s : State) : State := { s with rsp := none }

/-- What an idle command port presents: the all-zero word (47_cmd_lifecycle.md R170). -/
def idleInput : Input := .word 0

/-- The input presented now: the first one not yet accepted, or the idle word. -/
def nextInput (s : State) : Input := s.inputs.headD idleInput

/-- The presented input is accepted (20_memory.md R50, R53: exactly once). -/
def acceptInput (s : State) : State := { s with inputs := s.inputs.tail }

/-- A word presented before all that wait. -/
def presentFirst (cmd : CmdWord) (s : State) : State := { s with inputs := .word cmd :: s.inputs }

end Sys2Proof.Machine
end

