-- ==== Sys2Proof/Machine/DecayFilter.lean ====
section
/-! DEFINITION. The decay filter of a slot, one sample (spec/43_decay_filter.md R120, R126, R128, R129). -/

namespace Sys2Proof.Machine

/-- What one slot's filter gives for a sample. -/
structure Decayed where
  out : F32
  filter : SlotFilter
deriving DecidableEq, Repr

/-- The updated one-pole low-pass state, `lp + c (x - lp)` (R126). -/
def onePole (coeff lp x : F32) : F32 := fadd lp (fmul coeff (fsub x lp))

/-- The weighted sum of the three bands, from the updated low-pass states (R126). -/
def bandSum (k : Coeffs) (i : Fin 8) (lp1 lp2 x : F32) : F32 :=
  fadd (fadd (fmul k.gl[i] lp1) (fmul k.gm[i] (fsub lp2 lp1))) (fmul k.gh[i] (fsub x lp2))

/-- DECAY: one sample through the filter of slot `i` (R126). -/
def decay (k : Coeffs) (i : Fin 8) (f : SlotFilter) (x : F32) : Decayed :=
  let lp1 := onePole k.clo f.lp1 x
  let lp2 := onePole k.chi f.lp2 x
  let v := bandSum k i lp1 lp2 x
  let y := fadd (fmul k.b0 v) f.z1
  { out := y
    filter :=
      { lp1 := lp1
        lp2 := lp2
        z1 := fadd (fsub (fmul k.b1 v) (fmul k.a1 y)) f.z2
        z2 := fsub (fmul k.b2 v) (fmul k.a2 y) } }

/-- CLEARFILTERS (R129). -/
def clearFilters : Vector SlotFilter 8 := Vector.replicate 8 clearFilter

end Sys2Proof.Machine
end

