-- ==== Sys2Proof/Machine/DelayLine.lean ====
section
/-! DEFINITION. The operations of a delay line (spec/41_delay_line.md R100 to R104). `cap` is the line's
capacity, `CAP_DL` or `CAP_AP`. `clear` is `clearLine`. -/

namespace Sys2Proof.Machine

/-- `L.write(s)` (R101). -/
def lineWrite {w : Nat} (cap : Nat) (l : Line w) (s : F32) : Line w :=
  { ramWrite l l.head.toNat s with head := BitVec.ofNat w ((l.head.toNat + 1) % cap) }

/-- The word index an integer delay addresses, after the clamp (R102). -/
def readIndex {w : Nat} (cap : Nat) (l : Line w) (d : Int) : Nat :=
  (l.head.toNat + cap - (iclamp d 0 (cap - 1)).toNat) % cap

/-- `L.read(d)` (R102). -/
def lineRead {w : Nat} (cap : Nat) (l : Line w) (d : Int) : F32 := ramRead l (readIndex cap l d)

/-- `L.readInterp(d)` (R103). -/
def lineReadInterp {w : Nat} (cap : Nat) (l : Line w) (d : F32) : F32 :=
  let d' := fclamp d fzero (i2f (cap - 1))
  let i := ifloor d'
  let fr := fsub d' (i2f i)
  let a := lineRead cap l i
  let b := lineRead cap l (min (i + 1) (cap - 1))
  fadd a (fmul fr (fsub b a))

end Sys2Proof.Machine
end

