-- ==== Sys2Proof/Machine/Flags.lean ====
section
/-! DEFINITION. The sticky bits and the status word (spec/10_state.md R15, R16; spec/60_exceptions.md R201). -/

namespace Sys2Proof.Machine

/-- `STICKY <- 0`. -/
def noSticky : Sticky :=
  { pcl := false, icl := false, dcl := false, fcl := false, pfail := false, ill := false }

/-- `flag S_PCL` when `on` (R16). -/
def flagPcl (on : Bool) (k : Sticky) : Sticky := { k with pcl := k.pcl || on }

/-- `flag S_ICL` when `on`. -/
def flagIcl (on : Bool) (k : Sticky) : Sticky := { k with icl := k.icl || on }

/-- `flag S_DCL` when `on`. -/
def flagDcl (on : Bool) (k : Sticky) : Sticky := { k with dcl := k.dcl || on }

/-- `flag S_FCL` when `on`. -/
def flagFcl (on : Bool) (k : Sticky) : Sticky := { k with fcl := k.fcl || on }

/-- `flag S_PFAIL`. -/
def flagPfail (k : Sticky) : Sticky := { k with pfail := true }

/-- `flag S_ILL`. -/
def flagIll (k : Sticky) : Sticky := { k with ill := true }

/-- `RAMPING`: some smoother has samples left (R15). -/
def ramping (sm : Vector Smoother 14) : Bool := sm.any fun m => m.cnt != 0

/-- The number of a mode as the four bits of `STATUS[7:4]` (R15, R30). -/
def modeBits (m : Mode) : BitVec 4 := BitVec.ofNat 4 (modeIndex m).val

/-- `STATUS` (R15; 47_cmd_lifecycle.md R173). -/
def statusWord (s : State) : BitVec 32 :=
  (0 : BitVec 18) ++ BitVec.ofBool s.sticky.ill ++ BitVec.ofBool s.sticky.pfail ++ BitVec.ofBool s.sticky.fcl ++
    BitVec.ofBool s.sticky.dcl ++ BitVec.ofBool s.sticky.icl ++ BitVec.ofBool s.sticky.pcl ++
    modeBits s.active.mode ++ BitVec.ofBool (ramping s.smoothers) ++ BitVec.ofBool s.active.cpx ++
    BitVec.ofBool s.active.frz ++ BitVec.ofBool s.setup.prepared

end Sys2Proof.Machine
end

