-- ==== Sys2Proof/Machine/Operands.lean ====
section
/-! DEFINITION. Command operands and their sanitising (spec/30_encoding.md R63, spec/40_numerics.md R89). -/

namespace Sys2Proof.Machine

/-- An operand word as F32: `daz(asF32(u))` (30_encoding.md R63). -/
def operandF32 (u : Operand) : F32 := daz u

/-- An operand word as I32 (30_encoding.md R63). -/
def operandI32 (u : Operand) : Int := u.toInt

/-- SANITIZE: the sample PROCESS uses for an operand word (49_cmd_process.md R192). -/
def sanitize (c : Config) (u : Operand) : F32 := fclamp (operandF32 u) (fneg c.inLimit) c.inLimit

/-- Whether SANITIZE sets `S_ICL` (49_cmd_process.md R192). -/
def sanitizeClamped (c : Config) (u : Operand) : Bool := clampChanged (operandF32 u) (fneg c.inLimit) c.inLimit

/-- The value SETP stores for a value that is not a NaN (48_cmd_control.md R180). -/
def clampParam (c : Config) (k : Fin 14) (v : F32) : F32 := fclamp v c.pmin[k] c.pmax[k]

/-- The parameter index of an `IDX` field, where there is one (10_state.md R31). -/
def paramIndex (idx : Idx) : Option (Fin 14) := if h : idx.toNat < 14 then some ⟨idx.toNat, h⟩ else none

/-- The mode of an `IDX` field, indices above 9 clamped to 9 (48_cmd_control.md R181). -/
def modeOfIdx (idx : Idx) : Mode :=
  match idx.toNat with
  | 0 => .plate
  | 1 => .room
  | 2 => .hall
  | 3 => .chamber
  | 4 => .cathedral
  | 5 => .ambience
  | 6 => .brightHall
  | 7 => .chorusSpace
  | 8 => .randomSpace
  | _ => .dirtyHall

/-- Whether SETMODE clamps its index and so sets `S_PCL` (48_cmd_control.md R181). -/
def modeClamped (idx : Idx) : Bool := decide (9 < idx.toNat)

/-- A flag operand: every non-zero `IDX` means on (48_cmd_control.md R182, R183). -/
def flagOfIdx (idx : Idx) : Bool := decide (idx ≠ 0)

/-- Whether PREPARE refuses its operands (47_cmd_lifecycle.md R171). -/
def prepareRefused (rate block : Operand) : Bool :=
  isNaN (operandF32 rate) || fle (operandF32 rate) fzero || decide (operandI32 block < 1)

/-- The rate PREPARE takes (47_cmd_lifecycle.md R171). -/
def prepareRate (c : Config) (rate : Operand) : F32 := fclamp (operandF32 rate) c.fsMin c.fsMax

/-- Whether PREPARE clamps the rate and so sets `S_PCL` (47_cmd_lifecycle.md R171). -/
def rateClamped (c : Config) (rate : Operand) : Bool := fne (prepareRate c rate) (operandF32 rate)

end Sys2Proof.Machine
end

