-- ==== Sys2Proof/Machine/Smoothing.lean ====
section
/-! DEFINITION. The parameter-smoothing state machine (spec/46_param_smoothing.md R160 to R164). -/

namespace Sys2Proof.Machine

/-- RETARGET: notice a new target (R161). -/
def retarget (ramp : BitVec 16) (t : F32) (m : Smoother) : Smoother :=
  if fne t m.tgt then
    { m with tgt := t, cnt := ramp, inc := fdiv (fsub t m.cur) (i2f ramp.toNat) }
  else m

/-- Whether ADVANCE rewrites the current value (R162). -/
def moving (m : Smoother) : Bool := m.cnt != 0

/-- ADVANCE: one sample of the ramp (R162). -/
def advance (m : Smoother) : Smoother :=
  if moving m then
    let left := m.cnt - 1
    { m with cnt := left, cur := if left = 0 then m.tgt else fsub m.tgt (fmul (i2f left.toNat) m.inc) }
  else m

/-- `COEF_OWNERS` (10_state.md R31). -/
def coefOwners : List (Fin 14) := [0, 1, 2, 3, 4, 5, 6, 7, 11, 12, 13]

/-- The smoothers after RETARGET in every record (R163). -/
def retargetAll (ramp : BitVec 16) (pt : Vector F32 14) (sm : Vector Smoother 14) : Vector Smoother 14 :=
  Vector.zipWith (retarget ramp) pt sm

/-- The smoothers after SMOOTHSTEP; the records are independent (R163). -/
def smoothStep (ramp : BitVec 16) (pt : Vector F32 14) (sm : Vector Smoother 14) : Vector Smoother 14 :=
  (retargetAll ramp pt sm).map advance

/-- `chg` of SMOOTHSTEP: a coefficient-owning current value is rewritten (R163). -/
def smoothChanged (ramp : BitVec 16) (pt : Vector F32 14) (sm : Vector Smoother 14) : Bool :=
  coefOwners.any fun k => moving (retargetAll ramp pt sm)[k]

/-- SNAP (R164). -/
def snapAll (pt : Vector F32 14) : Vector Smoother 14 := pt.map snapped

end Sys2Proof.Machine
end

