-- ==== Sys2Proof/Machine/Engine.lean ====
section
/-! DEFINITION. The operations on the whole engine that several commands share (spec/43_decay_filter.md R125,
spec/46_param_smoothing.md R164, spec/47_cmd_lifecycle.md R172, R174, spec/70_reset_and_hazards.md R220). -/

namespace Sys2Proof.Machine

/-- RECOMPUTE (43_decay_filter.md R125). -/
def recompute (c : Config) (s : State) : State :=
  let cur := currents s.smoothers
  { s with
    coeffs := coeffsOf c s.active.mode s.setup.fs s.setup.fsk cur
    sticky := flagDcl (lengthClamped c s.active.mode s.setup.fsk cur[1]) s.sticky }

/-- ENGINECLEAR (47_cmd_lifecycle.md R174). -/
def engineClear (c : Config) (s : State) : State :=
  { s with
    dl := Vector.replicate 8 clearLine
    ap := Vector.replicate 2 (Vector.replicate 4 clearLine)
    filters := clearFilters
    modulation := clearModulation c }

/-- SNAP (46_param_smoothing.md R164). -/
def snap (s : State) : State := { s with smoothers := snapAll s.targets.pt }

/-- `MODE <- MODE_T; FRZ <- FRZ_T; CPX <- CPX_T` (47_cmd_lifecycle.md R171, R172). -/
def latchControls (s : State) : State :=
  { s with active := { mode := s.targets.modeT, frz := s.targets.frzT, cpx := s.targets.cpxT } }

/-- The sequence PREPARE and RESET share: latch, ENGINECLEAR, SNAP, RECOMPUTE (R171, R172). -/
def reload (c : Config) (s : State) : State := recompute c (snap (engineClear c (latchControls s)))

/-- The effect of an illegal word: `S_ILL`, nothing else, no response (30_encoding.md R64). -/
def illegalWord (s : State) : State := noResponse { s with sticky := flagIll s.sticky }

/-- A line under RST: the head returns to 0, the words are not written (70_reset_and_hazards.md R220). -/
def rewind {w : Nat} (l : Line w) : Line w := { l with head := 0 }

/-- RST: the state of `State.resetWith`, but for the delay words, which RST does not write, and the
inputs still to come (70_reset_and_hazards.md R220; log entry 7). -/
def applyRst (c : Config) (s : State) : State :=
  { State.resetWith c with
    dl := s.dl.map rewind
    ap := s.ap.map fun chain => chain.map rewind
    inputs := s.inputs }

end Sys2Proof.Machine
end

