-- ==== Sys2Proof/Machine/Control.lean ====
section
/-! DEFINITION. The control commands SETP, SETMODE, SETFRZ, SETCPX (spec/48_cmd_control.md R180 to R183). -/

namespace Sys2Proof.Machine

/-- One target register written (R180). -/
def writeTarget (k : Fin 14) (w : F32) (s : State) : State :=
  { s with targets := { s.targets with pt := s.targets.pt.set k.val w } }

/-- SETP with a legal index (R180): a NaN is dropped, another value is clamped into its range. -/
def setParam (c : Config) (k : Fin 14) (value : Operand) (s : State) : State :=
  let v := operandF32 value
  let w := clampParam c k v
  if isNaN v then { s with sticky := flagPcl true s.sticky }
  else { writeTarget k w s with sticky := flagPcl (fne w v) s.sticky }

/-- SETP under a configuration (R180). A term whose index no legal word holds acts as the illegal word it
would be encoded to (30_encoding.md R64; log entry 11). -/
def setpWith (c : Config) (idx : Idx) (value : Operand) (s : State) : State :=
  match paramIndex idx with
  | some k => noResponse (setParam c k value s)
  | none => illegalWord s

/-- SETP (R180). -/
def execSetp (idx : Idx) (value : Operand) (s : State) : Host.Outcome State Fault Refusal :=
  .next (setpWith refCfg idx value s)

/-- The targets after a mode's preset is loaded (R181). -/
def loadPreset (c : Config) (m : Mode) (t : Targets) : Targets :=
  let p := c.preset[modeIndex m]
  { t with
    modeT := m
    pt := ((((t.pt.set 6 p.xlo).set 7 p.xhi).set 8 p.modrate).set 9 p.moddepth).set 10 p.diffusion }

/-- SETMODE under a configuration (R181). -/
def setModeWith (c : Config) (idx : Idx) (s : State) : State :=
  noResponse
    { s with
      targets := loadPreset c (modeOfIdx idx) s.targets
      sticky := flagPcl (modeClamped idx) s.sticky }

/-- SETMODE (R181). -/
def execSetmode (idx : Idx) (s : State) : Host.Outcome State Fault Refusal :=
  .next (setModeWith refCfg idx s)

/-- The state after SETFRZ (R182). -/
def setFreeze (idx : Idx) (s : State) : State :=
  noResponse { s with targets := { s.targets with frzT := flagOfIdx idx } }

/-- SETFRZ (R182). -/
def execSetfrz (idx : Idx) (s : State) : Host.Outcome State Fault Refusal := .next (setFreeze idx s)

/-- The state after SETCPX (R183). -/
def setComplex (idx : Idx) (s : State) : State :=
  noResponse { s with targets := { s.targets with cpxT := flagOfIdx idx } }

/-- SETCPX (R183). -/
def execSetcpx (idx : Idx) (s : State) : Host.Outcome State Fault Refusal := .next (setComplex idx s)

end Sys2Proof.Machine
end

