-- ==== Sys2Proof/Machine/Lifecycle.lean ====
section
/-! DEFINITION. The lifecycle commands NOP, PREPARE, RESET, RDSTAT (spec/47_cmd_lifecycle.md R170 to R173). -/

namespace Sys2Proof.Machine

/-- NOP (R170): nothing, and no response. -/
def execNop (s : State) : Host.Outcome State Fault Refusal := .next (noResponse s)

/-- A refused PREPARE (R171): `S_PFAIL`, `PREPARED <- 0`, nothing else. -/
def prepareFail (s : State) : State :=
  { s with sticky := flagPfail s.sticky, setup := { s.setup with prepared := false } }

/-- An accepted PREPARE (R171). `PREPARED` is written with the other configuration registers: no step
of the sequence reads it. -/
def prepareAccept (c : Config) (rate block : Operand) (s : State) : State :=
  reload c
    { s with
      sticky := flagPcl (rateClamped c rate) noSticky
      setup := deriveFs c true (prepareRate c rate) block }

/-- PREPARE under a configuration (R171). -/
def prepareWith (c : Config) (rate block : Operand) (s : State) : State :=
  noResponse (if prepareRefused rate block then prepareFail s else prepareAccept c rate block s)

/-- PREPARE (R171). -/
def execPrepare (rate block : Operand) (s : State) : Host.Outcome State Fault Refusal :=
  .next (prepareWith refCfg rate block s)

/-- RESET under a configuration (R172). -/
def resetCommandWith (c : Config) (s : State) : State := noResponse (reload c s)

/-- RESET (R172). -/
def execReset (s : State) : Host.Outcome State Fault Refusal := .next (resetCommandWith refCfg s)

/-- The state after RDSTAT (R173). -/
def reportStatus (s : State) : State := emit (.status (statusWord s)) s

/-- RDSTAT (R173). -/
def execRdstat (s : State) : Host.Outcome State Fault Refusal := .next (reportStatus s)

end Sys2Proof.Machine
end

