-- ==== Sys2Proof/Machine/Diffuser.lean ====
section
/-! DEFINITION. The modulated allpass diffuser chain (spec/42_allpass_diffuser.md R110 to R115). -/

namespace Sys2Proof.Machine

/-- The output of an allpass stage, `y = -x + delayed` (R111). -/
def stageOut (x delayed : F32) : F32 := fadd (fneg x) delayed

/-- The word an allpass stage writes, `x + g * delayed` (R111). -/
def stageWord (g x delayed : F32) : F32 := fadd x (fmul g delayed)

/-- The unclamped request of the modulated stage (R114). -/
def apRequest (len : BitVec 12) (apd lfo : F32) : F32 := fadd (i2f len.toNat) (fmul apd lfo)

/-- Whether the modulated stage's request is clamped and `S_DCL` set (R114). -/
def apClamped (c : Config) (len : BitVec 12) (apd lfo : F32) : Bool :=
  fne (fclamp (apRequest len apd lfo) c.dMin (maxDelayAp c)) (apRequest len apd lfo)

/-- APREADMOD: the modulated read of stage 3 (R114). -/
def apReadMod (c : Config) (len : BitVec 12) (apd lfo : F32) (l : Line 12) : F32 :=
  lineReadInterp c.capAp l (fclamp (apRequest len apd lfo) c.dMin (maxDelayAp c))

/-- What stage `k` of a chain reads: a fixed integer delay, the last stage modulated (R112). -/
def stageRead (c : Config) (lens : Vector (BitVec 12) 4) (apd lfo : F32) (lines : Vector (Line 12) 4)
    (k : Fin 4) : F32 :=
  if k.val < 3 then lineRead c.capAp lines[k] lens[k].toNat else apReadMod c lens[k] apd lfo lines[k]

/-- The input of stage `k`, and for `k = 4` the output of the chain (R112). Stages own their lines, so
all reads of the chain may be taken before any write. -/
def stageInput (delayed : Vector F32 4) (x0 : F32) : Nat → F32
  | 0 => x0
  | k + 1 => if h : k < 4 then stageOut (stageInput delayed x0 k) delayed[k] else stageInput delayed x0 k

/-- What one chain gives for a sample. -/
structure Diffused where
  /-- The diffused sample `u`. -/
  out : F32
  /-- The chain's lines after the sample. -/
  lines : Vector (Line 12) 4
  /-- Whether `S_DCL` is set. -/
  clamped : Bool
deriving DecidableEq, Repr

/-- DIFFUSE: one chain, one sample (R112). -/
def diffuse (c : Config) (g apd lfo : F32) (lens : Vector (BitVec 12) 4) (lines : Vector (Line 12) 4)
    (x0 : F32) : Diffused :=
  let delayed := Vector.ofFn (stageRead c lens apd lfo lines)
  { out := stageInput delayed x0 4
    lines := Vector.ofFn fun k : Fin 4 =>
      lineWrite c.capAp lines[k] (stageWord g (stageInput delayed x0 k) delayed[k])
    clamped := apClamped c lens[3] apd lfo }

end Sys2Proof.Machine
end

