-- ==== Sys2Proof/Machine/Lfo.lean ====
section
/-! DEFINITION. The LFO modulation unit (spec/45_lfo_modulation.md R150 to R155). -/

namespace Sys2Proof.Machine

/-- The phase of an LFO after one sample (R151, R152). -/
def phaseNext (rate ratio fs ph : F32) : F32 :=
  let p := fadd ph (fdiv (fmul rate ratio) fs)
  if fle fone p then fsub p fone else p

/-- One step of the Galois shift register (R153). -/
def lfsrNext (c : Config) (x : BitVec 32) : BitVec 32 :=
  if x.getLsbD 0 then (x >>> 1) ^^^ c.lfsrTaps else x >>> 1

/-- The register after `n` steps (R153). -/
def lfsrAfter (c : Config) : Nat → BitVec 32 → BitVec 32
  | 0, x => x
  | n + 1, x => lfsrAfter c n (lfsrNext c x)

/-- The dither value of a register: bits 31:16 as I16, over 32768 (R153). -/
def ditherValue (x : BitVec 32) : F32 := fdiv (i2f (x.extractLsb' 16 16).toInt) f32768

/-- The outputs of the unit for one sample. -/
structure LfoOut where
  /-- `mod[0..7]`. -/
  mods : Vector F32 8
  /-- `lfoA[0..9]`. -/
  lfoA : Vector F32 10
deriving DecidableEq, Repr

/-- The primary outputs, from the phases before the advance (R151). -/
def primaryOut (c : Config) (m : Modulation) : Vector F32 10 := m.pha.map c.num.sin2pi

/-- The secondary outputs (R152). -/
def secondaryOut (c : Config) (m : Modulation) : Vector F32 8 := m.phb.map c.num.sin2pi

/-- The dither values `nz[0..7]` (R153). -/
def ditherOut (c : Config) (x : BitVec 32) : Vector F32 8 :=
  Vector.ofFn fun i : Fin 8 => ditherValue (lfsrAfter c (i.val + 1) x)

/-- A slot's modulator in complex mode (R154). -/
def complexMod (c : Config) (a b n : F32) : F32 :=
  fadd (fadd (fmul c.cpxWa a) (fmul c.cpxWb b)) (fmul c.cpxWn n)

/-- The outputs of LFOSTEP (R154). -/
def lfoOut (c : Config) (cpx : Bool) (m : Modulation) : LfoOut :=
  let lfoA := primaryOut c m
  let lfoB := secondaryOut c m
  let nz := ditherOut c m.lfsr
  { mods := Vector.ofFn fun i : Fin 8 =>
      if cpx then complexMod c lfoA[i.val] lfoB[i] nz[i] else lfoA[i.val]
    lfoA := lfoA }

/-- The modulation state after LFOSTEP: everything advances in every sample (R150, R154). -/
def lfoAdvance (c : Config) (rate fs : F32) (m : Modulation) : Modulation :=
  { pha := Vector.ofFn fun j : Fin 10 => phaseNext rate c.lfoRatio[j] fs m.pha[j]
    phb := Vector.ofFn fun i : Fin 8 => phaseNext rate c.lfo2Ratio[i] fs m.phb[i]
    lfsr := lfsrAfter c 8 m.lfsr }

end Sys2Proof.Machine
end

