-- ==== Sys2Proof/Machine/Network.lean ====
section
/-! DEFINITION. The feedback delay network, one sample (spec/44_fdn_core.md R135 to R141). -/

namespace Sys2Proof.Machine

/-- The unclamped read request of a slot (R136). -/
def fdnRequest (len depthS md : F32) : F32 := fadd len (fmul depthS md)

/-- The read request, clamped to `[D_MIN, CAP_DL - 1]` (R136). -/
def fdnDelay (c : Config) (len depthS md : F32) : F32 :=
  fclamp (fdnRequest len depthS md) c.dMin (maxDelayDl c)

/-- FDNREAD: step F1 for one slot (R136). -/
def fdnRead (c : Config) (len depthS md : F32) (l : Line 15) : F32 :=
  lineReadInterp c.capDl l (fdnDelay c len depthS md)

/-- Whether FDNREAD sets `S_DCL` (R136). -/
def fdnReadClamped (c : Config) (len depthS md : F32) : Bool :=
  fne (fdnDelay c len depthS md) (fdnRequest len depthS md)

/-- The slot a butterfly of the given stride pairs with slot `i`. -/
def partner (stride i : Fin 8) : Fin 8 := i ^^^ stride

/-- One butterfly stage: the lower slot of each pair gets the sum, the upper the difference (R138). The
pairs of a stage are disjoint, so their order is not observable. -/
def butterfly (stride : Fin 8) (m : Vector F32 8) : Vector F32 8 :=
  Vector.ofFn fun i : Fin 8 =>
    if i &&& stride = 0 then fadd m[i] m[partner stride i] else fsub m[partner stride i] m[i]

/-- HADAMARD: step F3, strides 1, 2, 4, then the scale (R138). -/
def hadamard (c : Config) (f : Vector F32 8) : Vector F32 8 :=
  (butterfly 4 (butterfly 2 (butterfly 1 f))).map (fmul c.hscale ·)

/-- INJECT: step F4 for one slot (R139). -/
def inject (c : Config) (frz : Bool) (i : Fin 8) (m uL uR : F32) : F32 :=
  if frz then m else fadd m (fadd (fmul c.injL[i] uL) (fmul c.injR[i] uR))

/-- The feedback clamp (R140). -/
def feedbackClamp (c : Config) (s : F32) : F32 := fclamp s (fneg c.fbLimit) c.fbLimit

/-- FDNWRITE: step F5 for one slot (R140). -/
def fdnWrite (c : Config) (l : Line 15) (s : F32) : Line 15 := lineWrite c.capDl l (feedbackClamp c s)

/-- The sum of a tap vector, from `+0.0` in ascending slots (R141). -/
def tapSum (w r : Vector F32 8) : F32 :=
  (List.finRange 8).foldl (fun acc i => fadd acc (fmul w[i] r[i])) fzero

/-- What FDNSTEP gives for a sample. -/
structure FdnResult where
  outL : F32
  outR : F32
  dl : Vector (Line 15) 8
  filters : Vector SlotFilter 8
  /-- Whether `S_DCL` is set in F1. -/
  delayClamped : Bool
  /-- Whether `S_FCL` is set in F5. -/
  feedbackClamped : Bool
deriving DecidableEq, Repr

/-- The values of step F1 (R135, R136). -/
def fdnReads (c : Config) (len : Vector F32 8) (depthS : F32) (mods : Vector F32 8) (dl : Vector (Line 15) 8) :
    Vector F32 8 :=
  Vector.ofFn fun i : Fin 8 => fdnRead c len[i] depthS mods[i] dl[i]

/-- The filters' results of step F2 while not frozen (R137). -/
def fdnDecays (k : Coeffs) (filters : Vector SlotFilter 8) (r : Vector F32 8) : Vector Decayed 8 :=
  Vector.ofFn fun i : Fin 8 => decay k i filters[i] r[i]

/-- The values of step F4 from those of F2 (R138, R139). -/
def fdnSums (c : Config) (frz : Bool) (f : Vector F32 8) (uL uR : F32) : Vector F32 8 :=
  let m := hadamard c f
  Vector.ofFn fun i : Fin 8 => inject c frz i m[i] uL uR

/-- FDNSTEP: steps F1 to F6 (R135). While frozen F2 passes the read values and leaves the filters
(R137; 43_decay_filter.md R128). -/
def fdnStep (c : Config) (frz : Bool) (k : Coeffs) (filters : Vector SlotFilter 8) (dl : Vector (Line 15) 8)
    (uL uR depthS : F32) (mods : Vector F32 8) : FdnResult :=
  let r := fdnReads c k.len depthS mods dl
  let d := fdnDecays k filters r
  let s := fdnSums c frz (if frz then r else d.map Decayed.out) uL uR
  { outL := fmul c.outScale (tapSum c.outL r)
    outR := fmul c.outScale (tapSum c.outR r)
    dl := Vector.zipWith (fdnWrite c) dl s
    filters := if frz then filters else d.map Decayed.filter
    delayClamped := (Vector.ofFn fun i : Fin 8 => fdnReadClamped c k.len[i] depthS mods[i]).any id
    feedbackClamped := s.any fun v => fne (feedbackClamp c v) v }

end Sys2Proof.Machine
end

