-- ==== Sys2Proof/Machine/Process.lean ====
section
/-! DEFINITION. The PROCESS command, one stereo sample (spec/49_cmd_process.md R190 to R193). -/

namespace Sys2Proof.Machine

/-- The mode switch of step P1 (R191). -/
def modeSwitch (c : Config) (s : State) : State :=
  if s.targets.modeT = s.active.mode then s
  else recompute c (snap (engineClear c { s with active := { s.active with mode := s.targets.modeT } }))

/-- The freeze toggle of step P1, in either direction (R191). -/
def freezeToggle (s : State) : State :=
  if s.targets.frzT = s.active.frz then s
  else { s with active := { s.active with frz := s.targets.frzT }, filters := clearFilters }

/-- CONTROLLATCH: step P1 (R191). -/
def controlLatch (c : Config) (s : State) : State :=
  let s' := freezeToggle (modeSwitch c s)
  { s' with active := { s'.active with cpx := s'.targets.cpxT } }

/-- Steps P2 and P3 (R190): the smoothers advance, and RECOMPUTE runs when an owner moved. -/
def smoothPhase (c : Config) (s : State) : State :=
  let s' := { s with smoothers := smoothStep s.setup.ramp s.targets.pt s.smoothers }
  if smoothChanged s.setup.ramp s.targets.pt s.smoothers then recompute c s' else s'

/-- The network depth in samples, `fmul(SM[9].cur, FSM)` (45_lfo_modulation.md R155). -/
def depthSamples (s : State) : F32 := fmul s.smoothers[9].cur s.setup.fsm

/-- The diffuser depth in samples (45_lfo_modulation.md R155). -/
def apDepth (c : Config) (s : State) : F32 := fmul (depthSamples s) c.apModScale

/-- Step P5 for one channel (R190; 42_allpass_diffuser.md R112): the sanitised sample through its chain,
modulated by primary LFO `8 + ch`. -/
def diffuseChannel (c : Config) (ch : Fin 2) (lfo : F32) (u : Operand) (s : State) : Diffused :=
  diffuse c s.smoothers[10].cur (apDepth c s) lfo s.setup.aplen[ch] s.ap[ch] (sanitize c u)

/-- Steps P4 to P7 (R190), on the state after P1 to P3. -/
def samplePhase (c : Config) (left right : Operand) (s : State) : State :=
  let lfo := lfoOut c s.active.cpx s.modulation
  let dL := diffuseChannel c 0 lfo.lfoA[8] left s
  let dR := diffuseChannel c 1 lfo.lfoA[9] right s
  let net := fdnStep c s.active.frz s.coeffs s.filters s.dl dL.out dR.out (depthSamples s) lfo.mods
  { s with
    modulation := lfoAdvance c s.smoothers[8].cur s.setup.fs s.modulation
    ap := #v[dL.lines, dR.lines]
    dl := net.dl
    filters := net.filters
    sticky :=
      flagFcl net.feedbackClamped
        (flagDcl (dL.clamped || dR.clamped || net.delayClamped)
          (flagIcl (sanitizeClamped c left || sanitizeClamped c right) s.sticky))
    rsp := some (.audio (rsp64 net.outL net.outR)) }

/-- PROCESS under a configuration (R190). Step P0: an unprepared engine answers silence and changes
nothing. -/
def processWith (c : Config) (left right : Operand) (s : State) : State :=
  if s.setup.prepared then samplePhase c left right (smoothPhase c (controlLatch c s))
  else emit (.audio (rsp64 fzero fzero)) s

/-- PROCESS (R190). -/
def execProcess (left right : Operand) (s : State) : Host.Outcome State Fault Refusal :=
  .next (processWith refCfg left right s)

end Sys2Proof.Machine
end

