-- ==== Sys2Proof/Machine/Dispatch.lean ====
section
/-! DEFINITION. One arm per command of spec/opcode_table.json. -/

namespace Sys2Proof.Machine

/-- The meaning of a command. -/
def exec (i : Instr) (s : State) : Host.Outcome State Fault Refusal :=
  match i with
  | .nop => Sys2Proof.Machine.execNop s
  | .prepare rate block => Sys2Proof.Machine.execPrepare rate block s
  | .reset => Sys2Proof.Machine.execReset s
  | .process left right => Sys2Proof.Machine.execProcess left right s
  | .rdstat => Sys2Proof.Machine.execRdstat s
  | .setp idx value => Sys2Proof.Machine.execSetp idx value s
  | .setmode idx => Sys2Proof.Machine.execSetmode idx s
  | .setfrz idx => Sys2Proof.Machine.execSetfrz idx s
  | .setcpx idx => Sys2Proof.Machine.execSetcpx idx s

end Sys2Proof.Machine
end

