-- ==== Sys2Proof/Machine/Step.lean ====
section
/-! DEFINITION. One step: the presented input is accepted and takes its whole effect (spec/20_memory.md R50). -/

namespace Sys2Proof.Machine

/-- The effect of a command word (30_encoding.md R64, R70): its command's meaning, or that of an
illegal word. -/
def stepWord (cmd : CmdWord) (s : State) : Host.Outcome State Fault Refusal :=
  match decode cmd with
  | .ok i => exec i s
  | .error _ => .next (illegalWord s)

/-- One step of the machine. -/
def step (s : State) : Host.Outcome State Fault Refusal :=
  match nextInput s with
  | .word cmd => stepWord cmd (acceptInput s)
  | .rst => .next (applyRst refCfg (acceptInput s))

/-- `s` with the word of an opcode-table row presented before all inputs that wait (log entry 6). -/
def State.withFetchWord (s : State) (nbits w : Nat) : State := presentFirst (tableWord nbits w) s

end Sys2Proof.Machine
end

