-- ==== Sys2Proof/Safety.lean ====
section
/-! DEFINITION. What a good state is: the invariants the spec states, each as a decidable proposition over
`refCfg`, and the words claims use. -/

namespace Sys2Proof.Machine

/-- `lo <= v <= hi`, false for a NaN (40_numerics.md R83). -/
def within (lo hi v : F32) : Bool := fle lo v && fle v hi

/-- A value in the legal range of parameter `k` (10_state.md R31). -/
def legalParam (k : Fin 14) (v : F32) : Bool := within refCfg.pmin[k] refCfg.pmax[k] v

/-- `PMIN[k] <= PT[k] <= PMAX[k]` for every target (10_state.md R11). -/
abbrev TargetsLegal (s : State) : Prop := ∀ k : Fin 14, legalParam k s.targets.pt[k] = true

/-- `FSK`, `FSM`, `RAMP`, `APLEN` are the functions of `FS` that DERIVEFS computes, and `FS` is in
`[FS_MIN, FS_MAX]` (10_state.md R14). -/
abbrev SetupDerived (s : State) : Prop :=
  within refCfg.fsMin refCfg.fsMax s.setup.fs = true ∧
    s.setup = deriveFs refCfg s.setup.prepared s.setup.fs s.setup.maxblk

/-- `0 <= cnt <= RAMP`, and an idle smoother holds its target bit for bit (46_param_smoothing.md
R166 (a), (b)). -/
abbrev SmoothersWellFormed (s : State) : Prop :=
  ∀ k : Fin 14, s.smoothers[k].cnt.toNat ≤ s.setup.ramp.toNat ∧
    (s.smoothers[k].cnt = 0 → s.smoothers[k].cur = s.smoothers[k].tgt)

/-- Every coefficient register equals what RECOMPUTE would compute (43_decay_filter.md R127). -/
abbrev CoeffsCurrent (s : State) : Prop :=
  s.coeffs = coeffsOf refCfg s.active.mode s.setup.fs s.setup.fsk (currents s.smoothers)

/-- Every delay memory is in canonical form (log entry 8). -/
abbrev MemoriesCanonical (s : State) : Prop :=
  (∀ i : Fin 8, s.dl[i].buf.wf refCfg.capDl = true) ∧
    ∀ (ch : Fin 2) (k : Fin 4), s.ap[ch][k].buf.wf refCfg.capAp = true

/-- Every word listed in a memory satisfies a test. -/
def allWords (p : F32 → Bool) (m : Memory) : Bool := m.all fun e => p e.2

/-- A word in `[-FB_LIMIT, +FB_LIMIT]` (44_fdn_core.md R143 (a)). -/
def withinFeedback (v : F32) : Bool := within (fneg refCfg.fbLimit) refCfg.fbLimit v

/-- Every word of every FDN line is in `[-2.0, 2.0]` (44_fdn_core.md R143 (a)). -/
abbrev FdnWordsBounded (s : State) : Prop := ∀ i : Fin 8, allWords withinFeedback s.dl[i].buf = true

/-- `LFSR != 0` (10_state.md R20, 45_lfo_modulation.md R156). -/
abbrev LfsrNonzero (s : State) : Prop := s.modulation.lfsr ≠ 0

/-- No smoother record holds a subnormal number. -/
def smootherFlushed (m : Smoother) : Bool := !isSubnormal m.cur && !isSubnormal m.tgt && !isSubnormal m.inc

/-- No filter state of a slot holds a subnormal number. -/
def filterFlushed (f : SlotFilter) : Bool :=
  !isSubnormal f.lp1 && !isSubnormal f.lp2 && !isSubnormal f.z1 && !isSubnormal f.z2

/-- No coefficient register holds a subnormal number. -/
def coeffsFlushed (k : Coeffs) : Bool :=
  k.len.all (fun v => !isSubnormal v) && k.gl.all (fun v => !isSubnormal v) && k.gm.all (fun v => !isSubnormal v) &&
    k.gh.all (fun v => !isSubnormal v) &&
    [k.rtl, k.rtm, k.rth, k.clo, k.chi, k.b0, k.b1, k.b2, k.a1, k.a2].all fun v => !isSubnormal v

/-- The response holds no subnormal number. -/
def responseFlushed : Option Response → Bool
  | some (.audio w) => !isSubnormal (outputLeft w) && !isSubnormal (outputRight w)
  | _ => true

/-- No line of a vector of lines holds a subnormal word. -/
def linesFlushed {w n : Nat} (ls : Vector (Line w) n) : Bool :=
  ls.all fun l => allWords (fun v => !isSubnormal v) l.buf

/-- "No state element and no response ever holds a subnormal number" (40_numerics.md R81). -/
abbrev NoSubnormals (s : State) : Prop :=
  s.targets.pt.all (fun v => !isSubnormal v) = true ∧
    (!isSubnormal s.setup.fs && !isSubnormal s.setup.fsk && !isSubnormal s.setup.fsm) = true ∧
    s.smoothers.all smootherFlushed = true ∧ coeffsFlushed s.coeffs = true ∧
    s.filters.all filterFlushed = true ∧ s.modulation.pha.all (fun v => !isSubnormal v) = true ∧
    s.modulation.phb.all (fun v => !isSubnormal v) = true ∧ linesFlushed s.dl = true ∧
    s.ap.all linesFlushed = true ∧ responseFlushed s.rsp = true

/-- A phase in `[0, 1)` (10_state.md R20). -/
def unitPhase (p : F32) : Bool := fle fzero p && flt p fone

/-- Every word of all sixteen lines is a zero of either sign (44_fdn_core.md R144 (a)). -/
abbrev LinesSilent (s : State) : Prop :=
  (∀ i : Fin 8, allWords isZero s.dl[i].buf = true) ∧
    ∀ (ch : Fin 2) (k : Fin 4), allWords isZero s.ap[ch][k].buf = true

/-- Every filter state is a zero of either sign (44_fdn_core.md R144 (a)). -/
abbrev FiltersSilent (s : State) : Prop :=
  ∀ i : Fin 8, isZero s.filters[i].lp1 = true ∧ isZero s.filters[i].lp2 = true ∧
    isZero s.filters[i].z1 = true ∧ isZero s.filters[i].z2 = true

/-- Every coefficient that multiplies a signal is a finite number (40_numerics.md R89). -/
abbrev CoeffsFinite (s : State) : Prop :=
  (∀ i : Fin 8, isFinite s.coeffs.gl[i] = true ∧ isFinite s.coeffs.gm[i] = true ∧ isFinite s.coeffs.gh[i] = true) ∧
    [s.coeffs.clo, s.coeffs.chi, s.coeffs.b0, s.coeffs.b1, s.coeffs.b2, s.coeffs.a1, s.coeffs.a2,
      s.smoothers[10].cur].all isFinite = true

/-- Every smoother stays on its ramp: the target and the current value are in the legal range of the
parameter, and while the ramp runs its increment is that of a start value in the legal range
(46_param_smoothing.md R161, R166 (c)). -/
abbrev RampsLegal (s : State) : Prop :=
  ∀ k : Fin 14, legalParam k s.smoothers[k].tgt = true ∧ legalParam k s.smoothers[k].cur = true ∧
    (s.smoothers[k].cnt ≠ 0 → ∃ start : F32, legalParam k start = true ∧
      s.smoothers[k].inc = fdiv (fsub s.smoothers[k].tgt start) (i2f s.setup.ramp.toNat))

/-- `0 <= PHA[j] < 1` and `0 <= PHB[i] < 1` (45_lfo_modulation.md R156). -/
abbrev PhasesInUnit (s : State) : Prop :=
  (∀ j : Fin 10, unitPhase s.modulation.pha[j] = true) ∧ ∀ i : Fin 8, unitPhase s.modulation.phb[i] = true

/-- Lines of equal capacity have equal heads, and the two capacities count the same samples
(41_delay_line.md R108). -/
abbrev HeadsInStep (s : State) : Prop :=
  (∀ i : Fin 8, s.dl[i].head = s.dl[0].head) ∧
    ∀ (ch : Fin 2) (k : Fin 4), s.ap[ch][k].head.toNat = s.dl[0].head.toNat % refCfg.capAp

/-- All the invariants that `State.reset` has and every step keeps. -/
abbrev Good (s : State) : Prop :=
  TargetsLegal s ∧ SetupDerived s ∧ SmoothersWellFormed s ∧ CoeffsCurrent s ∧ MemoriesCanonical s ∧
    FdnWordsBounded s ∧ LfsrNonzero s ∧ NoSubnormals s ∧ HeadsInStep s ∧ PhasesInUnit s

/-! ### Words of the statements -/

/-- A command word with the given fields (30_encoding.md R60). -/
def wordOf (opc : BitVec 8) (idx : Idx) (rsv : BitVec 16) (a b : Operand) : CmdWord := opc ++ idx ++ rsv ++ a ++ b

/-- The bits of a command word that its command uses: the others are ignored (30_encoding.md R61). -/
def usedBits : Instr → CmdWord
  | .prepare _ _ | .process _ _ => 0xFFFFFFFFFFFFFFFFFFFFFFFF
  | .setp _ _ => 0xFFFFFFFFFFFFFFFF00000000
  | .nop | .reset | .rdstat | .setmode _ | .setfrz _ | .setcpx _ => 0xFFFFFFFF0000000000000000

/-- A row of the opcode map (30_encoding.md R62). -/
structure OpcodeRow where
  mask : CmdWord
  pattern : CmdWord
  /-- The greatest `IDX` the row's extra condition admits, 255 where there is none. -/
  maxIdx : Nat

/-- The nine rows of the opcode map, in its order (30_encoding.md R62). -/
def opcodeMap : Vector OpcodeRow 9 :=
  #v[⟨0xFFFFFFFF0000000000000000, 0x000000000000000000000000, 255⟩,
    ⟨0xFFFFFFFF0000000000000000, 0x010000000000000000000000, 255⟩,
    ⟨0xFFFFFFFF0000000000000000, 0x020000000000000000000000, 255⟩,
    ⟨0xFFFFFFFF0000000000000000, 0x030000000000000000000000, 255⟩,
    ⟨0xFFFFFFFF0000000000000000, 0x040000000000000000000000, 255⟩,
    ⟨0xFF00FFFF0000000000000000, 0x100000000000000000000000, 13⟩,
    ⟨0xFF00FFFF0000000000000000, 0x110000000000000000000000, 255⟩,
    ⟨0xFF00FFFF0000000000000000, 0x120000000000000000000000, 255⟩,
    ⟨0xFF00FFFF0000000000000000, 0x130000000000000000000000, 255⟩]

/-- A word selects a row of the opcode map (30_encoding.md R62). -/
def selectsRow (cmd : CmdWord) (row : OpcodeRow) : Prop :=
  cmd &&& row.mask = row.pattern ∧ (fieldIdx cmd).toNat ≤ row.maxIdx

/-- The row of a command, counted from 0 (30_encoding.md R62). -/
def rowNumber : Instr → Fin 9
  | .nop => 0
  | .prepare _ _ => 1
  | .reset => 2
  | .process _ _ => 3
  | .rdstat => 4
  | .setp _ _ => 5
  | .setmode _ => 6
  | .setfrz _ => 7
  | .setcpx _ => 8

/-- What makes a word illegal (30_encoding.md R64). -/
def illegalFields (cmd : CmdWord) : Prop :=
  fieldRsv cmd ≠ 0 ∨
    fieldOpc cmd ∉ [0x00#8, 0x01#8, 0x02#8, 0x03#8, 0x04#8, 0x10#8, 0x11#8, 0x12#8, 0x13#8] ∨
    (fieldOpc cmd ∈ [0x00#8, 0x01#8, 0x02#8, 0x03#8, 0x04#8] ∧ fieldIdx cmd ≠ 0) ∨
    (fieldOpc cmd = 0x10#8 ∧ 14 ≤ (fieldIdx cmd).toNat)

/-- The real value of a finite number (40_numerics.md R80). -/
def valueOf (v : F32) : ℚ := scaled v / 2 ^ 149

/-- `u` is `rnd(x)` (40_numerics.md R81): the infinity of x's sign from `(2 - 2^-24) * 2^127` on, else a finite
number nearest to x, of x's sign where x is not zero, with an even fraction where another is as near. -/
def IsRounding (x : ℚ) (u : F32) : Prop :=
  if (2 ^ 25 - 1) * 2 ^ 103 ≤ |x| then isInf u = true ∧ (signBit u = true ↔ x < 0)
  else isFinite u = true ∧ (x ≠ 0 → (signBit u = true ↔ x < 0)) ∧
    ∀ v : F32, isFinite v = true → |valueOf u - x| ≤ |valueOf v - x| ∧
      (|valueOf u - x| = |valueOf v - x| → valueOf v ≠ valueOf u → fracField u % 2 = 0)

/-- The network line of slot `i` as CONTROLLATCH leaves it (49_cmd_process.md R191). -/
def latchedDl (s : State) (i : Fin 8) : Line 15 :=
  if s.targets.modeT = s.active.mode then s.dl[i] else { buf := [], head := 0 }

/-- The line of a diffuser stage as CONTROLLATCH leaves it (R191). -/
def latchedAp (s : State) (ch : Fin 2) (k : Fin 4) : Line 12 :=
  if s.targets.modeT = s.active.mode then s.ap[ch][k] else { buf := [], head := 0 }

/-- A smoother as CONTROLLATCH leaves it (R191; 46_param_smoothing.md R164). -/
def latchedSmoother (s : State) (k : Fin 14) : Smoother :=
  if s.targets.modeT = s.active.mode then s.smoothers[k]
  else { cur := s.targets.pt[k], tgt := s.targets.pt[k], inc := 0x00000000#32, cnt := 0 }

/-- The modulation state as CONTROLLATCH leaves it (R191; 47_cmd_lifecycle.md R174). -/
def latchedModulation (s : State) : Modulation :=
  if s.targets.modeT = s.active.mode then s.modulation
  else { pha := refCfg.lfoPhase0, phb := refCfg.lfo2Phase0, lfsr := 0xACE1ACE1#32 }

/-- The filter state of a slot as CONTROLLATCH leaves it (R191; 43_decay_filter.md R129). -/
def latchedFilter (s : State) (i : Fin 8) : SlotFilter :=
  if s.targets.modeT = s.active.mode ∧ s.targets.frzT = s.active.frz then s.filters[i]
  else { lp1 := 0x00000000#32, lp2 := 0x00000000#32, z1 := 0x00000000#32, z2 := 0x00000000#32 }

/-- Whether a PROCESS of `s` rewrites the current value of parameter `k`: a new target starts a ramp of `RAMP`
samples, and a ramp goes on while samples are left (46_param_smoothing.md R161, R162). -/
def rewritesCurrent (s : State) (k : Fin 14) : Prop :=
  if fne s.targets.pt[k] (latchedSmoother s k).tgt = true then s.setup.ramp ≠ 0 else (latchedSmoother s k).cnt ≠ 0

/-- The command a step of `s` runs, if the presented input is a legal word. -/
def presentedCommand (s : State) : Option Instr :=
  match nextInput s with
  | .word cmd => (decode cmd).toOption
  | .rst => none

end Sys2Proof.Machine
end

