-- ==== Sys2Proof/Certificates/Slice0/Obligations.lean ====
section
/-! DEFINITION. The statements for the provers, each a proposition about the model. A statement that rests on
a choice of the model's own names the log entry. -/

open Sys2Proof Sys2Proof.Machine

/-! ### Encoding (spec/30_encoding.md) -/

/-- Decoding the word of a well-formed command gives the command back, at every value of every operand
(R60 to R63). -/
def Obligations.EncodeDecodeRoundTrip : Prop :=
  ∀ i : Instr, i.wellFormed = true → decode (encode i) = .ok i

/-- A decoded command is well-formed, and encoding it gives the decoded word back but for the bits its
command ignores (R61, R65). -/
def Obligations.ReencodingKeepsUsedBits : Prop :=
  ∀ (cmd : CmdWord) (i : Instr), decode cmd = .ok i → i.wellFormed = true ∧ encode i = cmd &&& usedBits i

/-- A word selects a row of the opcode map exactly when the decoder reads that row's command from it, with
the operands of the word's fields; so the rows are disjoint and a word that selects no row is illegal (R62). -/
def Obligations.DecodeSelectsTableRow : Prop :=
  ∀ (cmd : CmdWord) (r : Fin 9),
    (selectsRow cmd opcodeMap[r] ↔ ∃ i, decode cmd = .ok i ∧ rowNumber i = r) ∧
      (selectsRow cmd opcodeMap[r] → ∀ r' : Fin 9, selectsRow cmd opcodeMap[r'] → r' = r) ∧
      ((∀ r' : Fin 9, ¬selectsRow cmd opcodeMap[r']) → ∃ e, decode cmd = .error e)

/-- The decode procedure of R70, on a word given by its fields. -/
def Obligations.DecodeFollowsProcedure : Prop :=
  ∀ (opc : BitVec 8) (idx : Idx) (rsv : BitVec 16) (a b : Operand),
    if rsv ≠ 0 then ∃ e, decode (wordOf opc idx rsv a b) = .error e
    else if opc ∈ [0x00#8, 0x01#8, 0x02#8, 0x03#8, 0x04#8] ∧ idx ≠ 0 then
      ∃ e, decode (wordOf opc idx rsv a b) = .error e
    else if opc = 0x00#8 then decode (wordOf opc idx rsv a b) = .ok .nop
    else if opc = 0x01#8 then decode (wordOf opc idx rsv a b) = .ok (.prepare a b)
    else if opc = 0x02#8 then decode (wordOf opc idx rsv a b) = .ok .reset
    else if opc = 0x03#8 then decode (wordOf opc idx rsv a b) = .ok (.process a b)
    else if opc = 0x04#8 then decode (wordOf opc idx rsv a b) = .ok .rdstat
    else if opc = 0x10#8 then
      if idx.toNat ≤ 13 then decode (wordOf opc idx rsv a b) = .ok (.setp idx a)
      else ∃ e, decode (wordOf opc idx rsv a b) = .error e
    else if opc = 0x11#8 then decode (wordOf opc idx rsv a b) = .ok (.setmode idx)
    else if opc = 0x12#8 then decode (wordOf opc idx rsv a b) = .ok (.setfrz idx)
    else if opc = 0x13#8 then decode (wordOf opc idx rsv a b) = .ok (.setcpx idx)
    else ∃ e, decode (wordOf opc idx rsv a b) = .error e

/-- The words the decoder refuses are those R64 lists, and a step on one sets `S_ILL`, answers nothing and
changes nothing else. -/
def Obligations.IllegalWordsSetOnlySill : Prop :=
  ∀ cmd : CmdWord,
    ((∃ e, decode cmd = .error e) ↔ illegalFields cmd) ∧
      ∀ (s : State) (rest : List Input), s.inputs = .word cmd :: rest → illegalFields cmd →
        step s = .next { s with inputs := rest, sticky := { s.sticky with ill := true }, rsp := none }

/-- Example words of 47_cmd_lifecycle.md, 48_cmd_control.md and 49_cmd_process.md decode to their commands. -/
def Obligations.SampleWordsDecode : Prop :=
  decode 0x0000000012345678DEADBEEF = .ok .nop ∧
    decode 0x01000000473B800000000200 = .ok (.prepare 0x473B8000 0x00000200) ∧
    decode 0x020000000000000000000000 = .ok .reset ∧
    decode 0x030000003F80000000000000 = .ok (.process 0x3F800000 0x00000000) ∧
    decode 0x040000000000000000000000 = .ok .rdstat ∧
    decode 0x1000000042C8000000000000 = .ok (.setp 0 0x42C80000) ∧
    decode 0x11C800000000000000000000 = .ok (.setmode 200) ∧
    decode 0x12FF00000000000000000000 = .ok (.setfrz 255) ∧
    decode 0x130100000000000000000000 = .ok (.setcpx 1)

/-! ### The step, RST -/

/-- When the presented word decodes to a command, the step accepts the word and runs that command
(20_memory.md R50, R53). -/
def Obligations.StepRunsDecodedCommand : Prop :=
  ∀ (s : State) (cmd : CmdWord) (rest : List Input) (i : Instr), s.inputs = .word cmd :: rest → decode cmd = .ok i →
    step s = exec i { s with inputs := rest }

/-- Every step answers a next state (60_exceptions.md R200) and accepts exactly one input
(20_memory.md R50, R53). That an empty list is an idle port, and that the inputs behind RST stay, is the model's
choice (log entries 5, 7). -/
def Obligations.EveryInputIsAcceptedOnce : Prop :=
  ∀ s : State, ∃ t, step s = .next t ∧ t.inputs = s.inputs.tail

/-- The values of R36 in `State.reset`. What the two fields of the model hold there is the model's choice
(log entry 5), and so is what the unspecified delay words read as (log entry 8): neither is stated. -/
def Obligations.ResetStateValues : Prop :=
  let s := State.reset
  (∀ k : Fin 14, s.targets.pt[k] = refCfg.pdef[k]) ∧ (modeIndex s.targets.modeT).val = 0 ∧
    (modeIndex s.active.mode).val = 0 ∧ s.targets.frzT = false ∧ s.active.frz = false ∧ s.targets.cpxT = false ∧
    s.active.cpx = false ∧ s.setup.prepared = false ∧ s.setup.fs = 0x473B8000#32 ∧ s.setup.maxblk = 0 ∧
    s.setup.fsk = 0x3F800000#32 ∧ s.setup.fsm = 0x42400000#32 ∧ s.setup.ramp.toNat = 960 ∧
    (∀ (ch : Fin 2) (k : Fin 4), s.setup.aplen[ch][k].toNat = refCfg.ap48[ch][k]) ∧
    s.sticky = { pcl := false, icl := false, dcl := false, fcl := false, pfail := false, ill := false } ∧
    (∀ k : Fin 14, s.smoothers[k] =
      { cur := refCfg.pdef[k], tgt := refCfg.pdef[k], inc := 0x00000000#32, cnt := 0 }) ∧
    s.coeffs = coeffsOf refCfg s.active.mode s.setup.fs s.setup.fsk (currents s.smoothers) ∧
    (∀ i : Fin 8, s.filters[i] =
      { lp1 := 0x00000000#32, lp2 := 0x00000000#32, z1 := 0x00000000#32, z2 := 0x00000000#32 }) ∧
    (∀ j : Fin 10, s.modulation.pha[j] = refCfg.lfoPhase0[j]) ∧
    (∀ i : Fin 8, s.modulation.phb[i] = refCfg.lfo2Phase0[i]) ∧ s.modulation.lfsr = 0xACE1ACE1#32 ∧
    (∀ i : Fin 8, s.dl[i].head = 0) ∧ ∀ (ch : Fin 2) (k : Fin 4), s.ap[ch][k].head = 0

/-- RST restores every element of `State.reset`, from any state, but the words of the delay memories, which
it does not write (70_reset_and_hazards.md R220). That RST is one input of the list, and that the inputs after
it stay, is the model's choice (log entry 7). -/
def Obligations.RstRestoresResetState : Prop :=
  ∀ (s : State) (rest : List Input), s.inputs = .rst :: rest →
    ∃ t, step s = .next t ∧ t = { State.reset with dl := t.dl, ap := t.ap, inputs := rest } ∧
      (∀ i : Fin 8, t.dl[i] = { buf := s.dl[i].buf, head := 0 }) ∧
      ∀ (ch : Fin 2) (k : Fin 4), t.ap[ch][k] = { buf := s.ap[ch][k].buf, head := 0 }

/-- `State.reset` has every invariant of the package. The canonical form of the memories is the model's
(log entry 8). -/
def Obligations.ResetStateIsGood : Prop := Good State.reset ∧ RampsLegal State.reset

/-! ### Lifecycle commands (spec/47_cmd_lifecycle.md) -/

/-- NOP changes no state element and emits no response, whatever its operand words; it is what an idle port
presents; with a non-zero `IDX` or `RSV` the word is illegal (R170). That an empty input list is the idle port
is the model's reading (log entry 5). -/
def Obligations.NopChangesNothing : Prop :=
  (∀ s : State, exec .nop s = .next { s with rsp := none }) ∧
    (∀ a b : Operand, decode (wordOf 0x00 0 0 a b) = .ok .nop) ∧
    (∀ (idx : Idx) (rsv : BitVec 16) (a b : Operand), idx ≠ 0 ∨ rsv ≠ 0 →
      ∃ e, decode (wordOf 0x00 idx rsv a b) = .error e) ∧
    ∀ s : State, s.inputs = [] → step s = .next { s with rsp := none }

/-- RDSTAT answers the status word, bit by bit, and changes nothing (R173; 10_state.md R15). -/
def Obligations.RdstatReportsStatus : Prop :=
  ∀ s : State, ∃ w : BitVec 32, exec .rdstat s = .next { s with rsp := some (.status w) } ∧
    w.getLsbD 0 = s.setup.prepared ∧ w.getLsbD 1 = s.active.frz ∧ w.getLsbD 2 = s.active.cpx ∧
    (w.getLsbD 3 = true ↔ ∃ k : Fin 14, 0 < s.smoothers[k].cnt.toNat) ∧
    (w.extractLsb' 4 4).toNat = (modeIndex s.active.mode).val ∧
    w.getLsbD 8 = s.sticky.pcl ∧ w.getLsbD 9 = s.sticky.icl ∧ w.getLsbD 10 = s.sticky.dcl ∧
    w.getLsbD 11 = s.sticky.fcl ∧ w.getLsbD 12 = s.sticky.pfail ∧ w.getLsbD 13 = s.sticky.ill ∧
    w.extractLsb' 14 18 = 0

/-- PREPARE: a rate that is NaN or not positive, or a block size below 1, sets `S_PFAIL`, clears `PREPARED` and
changes nothing else; any other operands clear the sticky bits, derive the registers from the clamped rate,
latch the controls, clear the engine, snap the smoothers, recompute and set `PREPARED` (R171, R174, R175;
70_reset_and_hazards.md R222). -/
def Obligations.PrepareFollowsItsRule : Prop :=
  ∀ (rate block : Operand) (s : State),
    let v := daz rate
    let f := if flt v 0x45FA0000#32 then 0x45FA0000#32 else if flt 0x483B8000#32 v then 0x483B8000#32 else v
    let fsk := fdiv f 0x473B8000#32
    if isNaN v = true ∨ fle v 0x00000000#32 = true ∨ block.toInt < 1 then
      exec (.prepare rate block) s =
        .next { s with
          sticky := { s.sticky with pfail := true }
          setup := { s.setup with prepared := false }
          rsp := none }
    else ∃ t, exec (.prepare rate block) s = .next t ∧
      t.targets = s.targets ∧ t.inputs = s.inputs ∧ t.rsp = none ∧
      t.setup.prepared = true ∧ t.setup.fs = f ∧ t.setup.maxblk = block ∧ t.setup.fsk = fsk ∧
      t.setup.fsm = fdiv f 0x447A0000#32 ∧
      (t.setup.ramp.toNat : Int) = iclamp (iround (fmul 0x3CA3D70A#32 f)) 1 65535 ∧
      (∀ (ch : Fin 2) (k : Fin 4), (t.setup.aplen[ch][k].toNat : Int) =
        iclamp (iround (fmul (i2f (refCfg.ap48[ch][k])) fsk)) 1 4095) ∧
      t.active = { mode := s.targets.modeT, frz := s.targets.frzT, cpx := s.targets.cpxT } ∧
      t.sticky =
        { pcl := fne f v, icl := false, dcl := lengthClamped refCfg s.targets.modeT fsk s.targets.pt[1]
          fcl := false, pfail := false, ill := false } ∧
      (∀ k : Fin 14, t.smoothers[k] =
        { cur := s.targets.pt[k], tgt := s.targets.pt[k], inc := 0x00000000#32, cnt := 0 }) ∧
      t.coeffs = coeffsOf refCfg s.targets.modeT f fsk s.targets.pt ∧
      (∀ i : Fin 8, t.filters[i] =
        { lp1 := 0x00000000#32, lp2 := 0x00000000#32, z1 := 0x00000000#32, z2 := 0x00000000#32 }) ∧
      t.modulation = { pha := refCfg.lfoPhase0, phb := refCfg.lfo2Phase0, lfsr := 0xACE1ACE1#32 } ∧
      (∀ i : Fin 8, t.dl[i].head = 0 ∧ ∀ a, ramRead t.dl[i] a = 0x00000000#32) ∧
      ∀ (ch : Fin 2) (k : Fin 4), t.ap[ch][k].head = 0 ∧ ∀ a, ramRead t.ap[ch][k] a = 0x00000000#32

/-- RESET latches the controls, clears the engine, snaps the smoothers and recomputes, prepared or not; the
targets, the configuration registers and the sticky bits but `S_DCL` stay (R172, R174). -/
def Obligations.ResetCommandClearsAndReloads : Prop :=
  ∀ s : State, ∃ t, exec .reset s = .next t ∧
    t.targets = s.targets ∧ t.setup = s.setup ∧ t.inputs = s.inputs ∧ t.rsp = none ∧
    t.active = { mode := s.targets.modeT, frz := s.targets.frzT, cpx := s.targets.cpxT } ∧
    t.sticky =
      { s.sticky with dcl := s.sticky.dcl || lengthClamped refCfg s.targets.modeT s.setup.fsk s.targets.pt[1] } ∧
    (∀ k : Fin 14, t.smoothers[k] =
      { cur := s.targets.pt[k], tgt := s.targets.pt[k], inc := 0x00000000#32, cnt := 0 }) ∧
    t.coeffs = coeffsOf refCfg s.targets.modeT s.setup.fs s.setup.fsk s.targets.pt ∧
    (∀ i : Fin 8, t.filters[i] =
      { lp1 := 0x00000000#32, lp2 := 0x00000000#32, z1 := 0x00000000#32, z2 := 0x00000000#32 }) ∧
    t.modulation = { pha := refCfg.lfoPhase0, phb := refCfg.lfo2Phase0, lfsr := 0xACE1ACE1#32 } ∧
    (∀ i : Fin 8, t.dl[i].head = 0 ∧ ∀ a, ramRead t.dl[i] a = 0x00000000#32) ∧
    ∀ (ch : Fin 2) (k : Fin 4), t.ap[ch][k].head = 0 ∧ ∀ a, ramRead t.ap[ch][k] a = 0x00000000#32

/-- The state after an accepted PREPARE depends on the operands and the targets only, and after a RESET on the
targets and the configuration registers, but for the sticky bits (70_reset_and_hazards.md R222, R224). -/
def Obligations.PrepareAndResetForgetHistory : Prop :=
  ∀ s s' : State, s.targets = s'.targets → s.inputs = s'.inputs →
    (∀ rate block, presentedCommand s = some (.prepare rate block) → prepareRefused rate block = false →
      step s = step s') ∧
    (presentedCommand s = some .reset →
      s'.setup = { s.setup with prepared := s'.setup.prepared, maxblk := s'.setup.maxblk } →
      ∃ t t', step s = .next t ∧ step s' = .next t' ∧ t' = { t with setup := s'.setup, sticky := t'.sticky })

/-! ### Control commands (spec/48_cmd_control.md) -/

/-- SETP with an index of R31: a NaN is dropped, another value is stored clamped into its range; either way
`S_PCL` says whether the value was altered, and nothing else changes. With an index of 14 or more the word is
illegal (R180). -/
def Obligations.SetpStoresClampedValue : Prop :=
  (∀ (k : Fin 14) (value : Operand) (s : State),
    let idx : Idx := BitVec.ofNat 8 k.val
    let v := daz value
    let w := if flt v refCfg.pmin[k] then refCfg.pmin[k] else if flt refCfg.pmax[k] v then refCfg.pmax[k] else v
    if isNaN v = true then
      exec (.setp idx value) s = .next { s with sticky := { s.sticky with pcl := true }, rsp := none }
    else
      exec (.setp idx value) s =
        .next { s with
          targets := { s.targets with pt := s.targets.pt.set k.val w }
          sticky := { s.sticky with pcl := s.sticky.pcl || fne w v }
          rsp := none }) ∧
    ∀ (idx : Idx) (a b : Operand), 14 ≤ idx.toNat → ∃ e, decode (wordOf 0x10 idx 0 a b) = .error e

/-- SETMODE stores the mode of its index, 9 for an index above 9 with `S_PCL`, loads the mode's five preset
values into `PT[6..10]`, and changes nothing else (R181). -/
def Obligations.SetmodeLoadsPreset : Prop :=
  ∀ (idx : Idx) (s : State), ∃ m : Mode, (modeIndex m).val = (if 9 < idx.toNat then 9 else idx.toNat) ∧
    ∃ pt : Vector F32 14,
      (∀ k : Fin 14, pt[k] =
        if k = 6 then refCfg.preset[modeIndex m].xlo
        else if k = 7 then refCfg.preset[modeIndex m].xhi
        else if k = 8 then refCfg.preset[modeIndex m].modrate
        else if k = 9 then refCfg.preset[modeIndex m].moddepth
        else if k = 10 then refCfg.preset[modeIndex m].diffusion
        else s.targets.pt[k]) ∧
      exec (.setmode idx) s =
        .next { s with
          targets := { s.targets with modeT := m, pt := pt }
          sticky := { s.sticky with pcl := s.sticky.pcl || decide (9 < idx.toNat) }
          rsp := none }

/-- SETFRZ and SETCPX write their target, on for every non-zero index, and change nothing else (R182, R183). -/
def Obligations.SetfrzAndSetcpxWriteTargets : Prop :=
  ∀ (idx : Idx) (s : State),
    exec (.setfrz idx) s =
        .next { s with targets := { s.targets with frzT := decide (idx.toNat ≠ 0) }, rsp := none } ∧
      exec (.setcpx idx) s =
        .next { s with targets := { s.targets with cpxT := decide (idx.toNat ≠ 0) }, rsp := none }

/-- Only RST and the control commands write a target, only RST and PREPARE write a configuration register, and
a control command writes nothing but a target and `S_PCL` (10_state.md R10, R14; 20_memory.md R51). -/
def Obligations.TargetsAndSetupHaveTheirWriters : Prop :=
  ∀ s t : State, step s = .next t →
    let control := ∃ i, presentedCommand s = some i ∧
      ((∃ k v, i = .setp k v) ∨ (∃ k, i = .setmode k) ∨ (∃ k, i = .setfrz k) ∨ ∃ k, i = .setcpx k)
    (t.targets ≠ s.targets → nextInput s = .rst ∨ control) ∧
      (t.setup ≠ s.setup → nextInput s = .rst ∨ ∃ a b, presentedCommand s = some (.prepare a b)) ∧
      (control → t = { s with
        targets := t.targets
        sticky := { s.sticky with pcl := t.sticky.pcl }
        rsp := none
        inputs := s.inputs.tail })

/-! ### PROCESS (spec/49_cmd_process.md) -/

/-- Step P0 of R190: an unprepared engine answers silence and changes nothing. -/
def Obligations.UnpreparedProcessIsSilent : Prop :=
  ∀ (left right : Operand) (s : State), s.setup.prepared = false →
    exec (.process left right) s = .next { s with rsp := some (.audio 0x0000000000000000#64) }

/-- PROCESS on a prepared engine always completes with a stereo response, latches the discrete controls, leaves
the targets, the configuration registers and the sticky bits it does not own, keeps the sticky bits that are
set, advances each of the sixteen heads by one and writes no word of a line but the one at the head; a mode
switch clears the lines first (R190, R191, R193; 41_delay_line.md R101, R108). -/
def Obligations.ProcessFrame : Prop :=
  ∀ (left right : Operand) (s : State), s.setup.prepared = true →
    ∃ t w, exec (.process left right) s = .next t ∧ t.rsp = some (.audio w) ∧
      t.targets = s.targets ∧ t.setup = s.setup ∧ t.inputs = s.inputs ∧
      t.active = { mode := s.targets.modeT, frz := s.targets.frzT, cpx := s.targets.cpxT } ∧
      t.sticky.pcl = s.sticky.pcl ∧ t.sticky.pfail = s.sticky.pfail ∧ t.sticky.ill = s.sticky.ill ∧
      (s.sticky.icl = true → t.sticky.icl = true) ∧ (s.sticky.dcl = true → t.sticky.dcl = true) ∧
      (s.sticky.fcl = true → t.sticky.fcl = true) ∧
      (∀ i : Fin 8, t.dl[i].head.toNat = ((latchedDl s i).head.toNat + 1) % 32768 ∧
        ∀ a, a ≠ (latchedDl s i).head.toNat → ramRead t.dl[i] a = ramRead (latchedDl s i) a) ∧
      ∀ (ch : Fin 2) (k : Fin 4), t.ap[ch][k].head.toNat = ((latchedAp s ch k).head.toNat + 1) % 4096 ∧
        ∀ a, a ≠ (latchedAp s ch k).head.toNat → ramRead t.ap[ch][k] a = ramRead (latchedAp s ch k) a

/-- One PROCESS retargets and advances every smoother once, advances every LFO phase and steps the shift
register eight times, and recomputes the coefficients exactly when a mode switched or an owner moved
(46_param_smoothing.md R161 to R163; 45_lfo_modulation.md R151 to R153; 43_decay_filter.md R127). Where the
increment flushes to zero, R162 is followed (log entry 9). -/
def Obligations.ProcessAdvancesControlState : Prop :=
  ∀ (left right : Operand) (s : State), s.setup.prepared = true →
    ∃ t, exec (.process left right) s = .next t ∧
      (∀ k : Fin 14,
        let m := latchedSmoother s k
        let p := s.targets.pt[k]
        let m' : Smoother :=
          if fne p m.tgt = true then
            { cur := m.cur, tgt := p, inc := fdiv (fsub p m.cur) (i2f s.setup.ramp.toNat), cnt := s.setup.ramp }
          else m
        t.smoothers[k] =
          if m'.cnt.toNat = 0 then m'
          else if m'.cnt.toNat = 1 then { m' with cur := m'.tgt, cnt := 0 }
          else
            { m' with
              cur := fsub m'.tgt (fmul (i2f (m'.cnt.toNat - 1 : Nat)) m'.inc)
              cnt := BitVec.ofNat 16 (m'.cnt.toNat - 1) }) ∧
      (∀ j : Fin 10,
        let ph := (latchedModulation s).pha[j]
        let p := fadd ph (fdiv (fmul t.smoothers[8].cur refCfg.lfoRatio[j]) s.setup.fs)
        t.modulation.pha[j] = if fle 0x3F800000#32 p = true then fsub p 0x3F800000#32 else p) ∧
      (∀ i : Fin 8,
        let ph := (latchedModulation s).phb[i]
        let p := fadd ph (fdiv (fmul t.smoothers[8].cur refCfg.lfo2Ratio[i]) s.setup.fs)
        t.modulation.phb[i] = if fle 0x3F800000#32 p = true then fsub p 0x3F800000#32 else p) ∧
      t.modulation.lfsr = (lfsrNext refCfg)^[8] (latchedModulation s).lfsr ∧
      (s.targets.modeT = s.active.mode → (∀ k ∈ coefOwners, ¬rewritesCurrent s k) → t.coeffs = s.coeffs) ∧
      ((s.targets.modeT ≠ s.active.mode ∨ ∃ k ∈ coefOwners, rewritesCurrent s k) →
        t.coeffs = coeffsOf refCfg s.targets.modeT s.setup.fs s.setup.fsk (currents t.smoothers))

/-- Steps P4 to P7 of PROCESS, spelled out on the latched lines, filters and phases and the new current values
and coefficients. The modulators are those of the phases and the shift register before their advance (R151 to
R154) at the depths of R155; each sanitised sample runs through its diffuser chain, which writes its lines (R112);
then FDNSTEP: the modulated reads, DECAY (bypassed in freeze), the mixer, the injection (dropped in freeze), the
clamped writes, the output taps (45_lfo_modulation.md R151 to R155; 42_allpass_diffuser.md R112, R114;
43_decay_filter.md R126, R128; 44_fdn_core.md R135 to R141; 30_encoding.md R66). -/
def Obligations.ProcessRunsTheNetworkStep : Prop :=
  ∀ (left right : Operand) (s : State), s.setup.prepared = true → MemoriesCanonical s →
    let lfoA := fun j : Fin 10 => refNum.sin2pi (latchedModulation s).pha[j]
    let lfoB := fun i : Fin 8 => refNum.sin2pi (latchedModulation s).phb[i]
    let nz := fun i : Fin 8 =>
      fdiv (i2f (((lfsrNext refCfg)^[i.val + 1] (latchedModulation s).lfsr).extractLsb' 16 16).toInt) 0x47000000#32
    let mods := fun i : Fin 8 =>
      if s.targets.cpxT then
        fadd (fadd (fmul 0x3F200000#32 (lfoA (i.castLE (by decide)))) (fmul 0x3EA00000#32 (lfoB i)))
          (fmul 0x3D800000#32 (nz i))
      else lfoA (i.castLE (by decide))
    ∃ (t : State) (dL dR : Diffused) (r f mix sum : Vector F32 8),
      let depthS := fmul t.smoothers[9].cur s.setup.fsm
      let apd := fmul depthS 0x3F000000#32
      let raw := fun i : Fin 8 => fadd t.coeffs.len[i] (fmul depthS (mods i))
      let d := fun i : Fin 8 => fclamp (raw i) 0x3F800000#32 (i2f 32767)
      exec (.process left right) s = .next t ∧
      dL = diffuse refCfg t.smoothers[10].cur apd (lfoA 8) s.setup.aplen[0] (Vector.ofFn (latchedAp s 0))
        (sanitize refCfg left) ∧
      dR = diffuse refCfg t.smoothers[10].cur apd (lfoA 9) s.setup.aplen[1] (Vector.ofFn (latchedAp s 1))
        (sanitize refCfg right) ∧
      t.ap[0] = dL.lines ∧ t.ap[1] = dR.lines ∧
      (∀ i : Fin 8, r[i] = lineReadInterp 32768 (latchedDl s i) (d i)) ∧
      (∀ i : Fin 8,
        let k := t.coeffs
        let q := latchedFilter s i
        let lp1 := fadd q.lp1 (fmul k.clo (fsub r[i] q.lp1))
        let lp2 := fadd q.lp2 (fmul k.chi (fsub r[i] q.lp2))
        let v := fadd (fadd (fmul k.gl[i] lp1) (fmul k.gm[i] (fsub lp2 lp1))) (fmul k.gh[i] (fsub r[i] lp2))
        let y := fadd (fmul k.b0 v) q.z1
        if s.targets.frzT then f[i] = r[i] ∧ t.filters[i] = q
        else f[i] = y ∧ t.filters[i] =
          { lp1 := lp1
            lp2 := lp2
            z1 := fadd (fsub (fmul k.b1 v) (fmul k.a1 y)) q.z2
            z2 := fsub (fmul k.b2 v) (fmul k.a2 y) }) ∧
      mix = hadamard refCfg f ∧
      (∀ i : Fin 8, sum[i] = if s.targets.frzT then mix[i]
        else fadd mix[i] (fadd (fmul refCfg.injL[i] dL.out) (fmul refCfg.injR[i] dR.out))) ∧
      (∀ i : Fin 8, ramRead t.dl[i] (latchedDl s i).head.toNat = fclamp sum[i] 0xC0000000#32 0x40000000#32) ∧
      t.rsp = some (.audio (fmul 0x3F000000#32 (tapSum refCfg.outL r) ++ fmul 0x3F000000#32 (tapSum refCfg.outR r))) ∧
      (t.sticky.fcl = true ↔ s.sticky.fcl = true ∨
        ∃ i : Fin 8, fne (fclamp sum[i] 0xC0000000#32 0x40000000#32) sum[i] = true) ∧
      (t.sticky.dcl = true ↔ s.sticky.dcl = true ∨
        (s.targets.modeT ≠ s.active.mode ∧
          lengthClamped refCfg s.targets.modeT s.setup.fsk s.targets.pt[1] = true) ∨
        ((∃ k ∈ coefOwners, rewritesCurrent s k) ∧
          lengthClamped refCfg s.targets.modeT s.setup.fsk t.smoothers[1].cur = true) ∨
        dL.clamped = true ∨ dR.clamped = true ∨ ∃ i : Fin 8, fne (d i) (raw i) = true)

/-- The input of a PROCESS cannot appear in its own response, nor in any state but the lines and the sticky
bits (R190; 44_fdn_core.md R141). -/
def Obligations.ResponseIgnoresOwnInput : Prop :=
  ∀ (left right left' right' : Operand) (s : State),
    ∃ t t', exec (.process left right) s = .next t ∧ exec (.process left' right') s = .next t' ∧
      t' = { t with dl := t'.dl, ap := t'.ap, sticky := t'.sticky }

/-- While frozen the input reaches neither the network lines nor the filter states, and the decay filters are
bypassed: they keep their states, cleared once when the freeze begins or the mode switches
(44_fdn_core.md R142; 43_decay_filter.md R128, R129). -/
def Obligations.FrozenNetworkIgnoresInput : Prop :=
  ∀ (left right left' right' : Operand) (s : State), s.setup.prepared = true → s.targets.frzT = true →
    ∃ t t', exec (.process left right) s = .next t ∧ exec (.process left' right') s = .next t' ∧
      t'.dl = t.dl ∧ t'.filters = t.filters ∧ t'.rsp = t.rsp ∧
      t.filters =
        if s.active.frz = true ∧ s.targets.modeT = s.active.mode then s.filters
        else Vector.replicate 8 { lp1 := 0x00000000#32, lp2 := 0x00000000#32, z1 := 0x00000000#32, z2 := 0x00000000#32 }

/-- A mode switch cuts the tail: the PROCESS that makes it answers `(+0.0, +0.0)`, and leaves every word of the
network and diffuser lines `+0.0` but the one it writes, with the new mode's values in force at once (R191). -/
def Obligations.ModeSwitchIsSilent : Prop :=
  ∀ (left right : Operand) (s : State), s.setup.prepared = true → s.targets.modeT ≠ s.active.mode →
    TargetsLegal s →
    ∃ t, exec (.process left right) s = .next t ∧ t.rsp = some (.audio 0x0000000000000000#64) ∧
      t.active.mode = s.targets.modeT ∧
      (∀ k : Fin 14, t.smoothers[k] =
        { cur := s.targets.pt[k], tgt := s.targets.pt[k], inc := 0x00000000#32, cnt := 0 }) ∧
      t.coeffs = coeffsOf refCfg s.targets.modeT s.setup.fs s.setup.fsk s.targets.pt ∧
      (∀ (i : Fin 8) (a : Nat), a ≠ 0 → ramRead t.dl[i] a = 0x00000000#32) ∧
      ∀ (ch : Fin 2) (k : Fin 4) (a : Nat), a ≠ 0 → ramRead t.ap[ch][k] a = 0x00000000#32

/-- SANITIZE (R192): NaN becomes `+0.0`, a value beyond `±2.0` the nearer limit, a subnormal a zero of its sign;
`S_ICL` is set exactly when a sample was NaN or beyond a limit; and PROCESS sees the sanitised samples only. -/
def Obligations.InputIsSanitised : Prop :=
  let altered := fun u : Operand =>
    isNaN (daz u) = true ∨ flt (daz u) 0xC0000000#32 = true ∨ flt 0x40000000#32 (daz u) = true
  (∀ u : Operand, sanitize refCfg u =
    if isNaN (daz u) = true then 0x00000000#32
    else if flt (daz u) 0xC0000000#32 = true then 0xC0000000#32
    else if flt 0x40000000#32 (daz u) = true then 0x40000000#32 else daz u) ∧
    ∀ (left right : Operand) (s : State), s.setup.prepared = true →
      ∃ t t', exec (.process left right) s = .next t ∧
        exec (.process (sanitize refCfg left) (sanitize refCfg right)) s = .next t' ∧
        (t.sticky.icl = true ↔ s.sticky.icl = true ∨ altered left ∨ altered right) ∧
        t' = { t with sticky := { t.sticky with icl := s.sticky.icl } }

/-! ### Whole-machine rules -/

/-- Each sticky bit is set only by the commands of its row, and nothing clears one but RST and an accepted
PREPARE (10_state.md R16; 60_exceptions.md R201). -/
def Obligations.StickyBitsFollowTheirTable : Prop :=
  ∀ s t : State, step s = .next t → nextInput s ≠ .rst →
    let runs := fun p : Instr → Prop => ∃ i, presentedCommand s = some i ∧ p i
    let isPrepare := fun i : Instr => ∃ a b, i = .prepare a b
    let isProcess := fun i : Instr => ∃ a b, i = .process a b
    (¬runs (fun i => ∃ a b, i = .prepare a b ∧ prepareRefused a b = false) →
      (s.sticky.pcl = true → t.sticky.pcl = true) ∧ (s.sticky.icl = true → t.sticky.icl = true) ∧
        (s.sticky.dcl = true → t.sticky.dcl = true) ∧ (s.sticky.fcl = true → t.sticky.fcl = true) ∧
        (s.sticky.pfail = true → t.sticky.pfail = true) ∧ (s.sticky.ill = true → t.sticky.ill = true)) ∧
      (t.sticky.pcl = true → s.sticky.pcl = true ∨
        runs fun i => isPrepare i ∨ (∃ k v, i = .setp k v) ∨ ∃ k, i = .setmode k) ∧
      (t.sticky.icl = true → s.sticky.icl = true ∨ runs isProcess) ∧
      (t.sticky.dcl = true → s.sticky.dcl = true ∨ runs fun i => isPrepare i ∨ i = .reset ∨ isProcess i) ∧
      (t.sticky.fcl = true → s.sticky.fcl = true ∨ runs isProcess) ∧
      (t.sticky.pfail = true → s.sticky.pfail = true ∨ runs isPrepare) ∧
      (t.sticky.ill = true → s.sticky.ill = true ∨ presentedCommand s = none)

/-- No rule reads a sticky bit but RDSTAT's, and none reads `MAXBLK` (10_state.md R14, R16): from two states
that differ only there, a step gives states that differ only there and in the sticky bits of a status response;
no sticky bit depends on another one, and `MAXBLK` alone changes no response. -/
def Obligations.StickyAndMaxblkAreNotRead : Prop :=
  ∀ (s : State) (k : Sticky) (blk : BitVec 32),
    ∃ t t', step s = .next t ∧ step { s with sticky := k, setup := { s.setup with maxblk := blk } } = .next t' ∧
      t' = { t with sticky := t'.sticky, setup := { t.setup with maxblk := t'.setup.maxblk }, rsp := t'.rsp } ∧
      (k.pcl = s.sticky.pcl → t'.sticky.pcl = t.sticky.pcl) ∧ (k.icl = s.sticky.icl → t'.sticky.icl = t.sticky.icl) ∧
      (k.dcl = s.sticky.dcl → t'.sticky.dcl = t.sticky.dcl) ∧ (k.fcl = s.sticky.fcl → t'.sticky.fcl = t.sticky.fcl) ∧
      (k.pfail = s.sticky.pfail → t'.sticky.pfail = t.sticky.pfail) ∧
      (k.ill = s.sticky.ill → t'.sticky.ill = t.sticky.ill) ∧ (k = s.sticky → t'.rsp = t.rsp) ∧
      (t'.rsp = t.rsp ∨ ∃ w w' : BitVec 32, t.rsp = some (.status w) ∧ t'.rsp = some (.status w') ∧
        w' &&& 0xFFFFC0FF#32 = w &&& 0xFFFFC0FF#32)

/-- R144 (a): with every delay word and filter state a zero and both inputs zeros, PROCESS answers `(+0.0, +0.0)`
and leaves all of them zeros, while smoothers ramp and while a mode or freeze change is pending, provided the
coefficients it uses are finite numbers; and they are in every state with legal targets, derived rate registers,
smoothers on legal ramps and current coefficients (40_numerics.md R89). -/
def Obligations.SilentProcessStaysSilent : Prop :=
  ∀ (left right : Operand) (s : State), s.setup.prepared = true →
    ∃ t, exec (.process left right) s = .next t ∧
      (isZero (daz left) = true → isZero (daz right) = true → LinesSilent s → FiltersSilent s → CoeffsFinite t →
        t.rsp = some (.audio 0x0000000000000000#64) ∧ LinesSilent t ∧ FiltersSilent t) ∧
      (TargetsLegal s → SetupDerived s → SmoothersWellFormed s → RampsLegal s → CoeffsCurrent s → CoeffsFinite t)

/-- "After PREPARE or RESET, any number of `PROCESS 0.0, 0.0` commands emit `(+0.0, +0.0)`" (R144 (a)), from
every state with legal targets, whatever it held. -/
def Obligations.SilenceAfterPrepareOrReset : Prop :=
  ∀ (first : Instr) (n : Nat) (s : State), TargetsLegal s →
    ((∃ rate block, first = .prepare rate block ∧ prepareRefused rate block = false) ∨
      (first = .reset ∧ s.setup.prepared = true)) →
    s.inputs = .word (encode first) :: List.replicate (n + 1) (.word (encode (.process 0 0))) →
    ∃ t, Sys2Proof.core.run (n + 2) s = .next t ∧ t.rsp = some (.audio 0x0000000000000000#64)

/-! ### Invariants that every step keeps -/

/-- Every step keeps the canonical form of the delay memories, which is the model's (log entry 8;
20_memory.md R43, R44). -/
def Obligations.StepKeepsCanonicalMemories : Prop :=
  ∀ s t : State, MemoriesCanonical s → step s = .next t → MemoriesCanonical t

/-- `PT[k]` always holds a value in its legal range (10_state.md R11). -/
def Obligations.StepKeepsTargetsLegal : Prop :=
  ∀ s t : State, TargetsLegal s → step s = .next t → TargetsLegal t

/-- `FS` stays in its range and `FSK`, `FSM`, `RAMP`, `APLEN` stay functions of it (10_state.md R14). -/
def Obligations.StepKeepsSetupDerived : Prop :=
  ∀ s t : State, SetupDerived s → step s = .next t → SetupDerived t

/-- `0 <= cnt <= RAMP`, and an idle smoother holds its target bit for bit (46_param_smoothing.md R166 (a), (b)),
where `RAMP` is what DERIVEFS computes. -/
def Obligations.StepKeepsSmoothersWellFormed : Prop :=
  ∀ s t : State, SetupDerived s → SmoothersWellFormed s → step s = .next t → SmoothersWellFormed t

/-- The current values stay in their legal ranges, each on its ramp (46_param_smoothing.md R166 (c)). -/
def Obligations.StepKeepsCurrentValuesLegal : Prop :=
  ∀ s t : State, TargetsLegal s → SetupDerived s → SmoothersWellFormed s → RampsLegal s → step s = .next t →
    RampsLegal t

/-- The coefficient registers equal what RECOMPUTE would compute (43_decay_filter.md R127). -/
def Obligations.StepKeepsCoeffsCurrent : Prop :=
  ∀ s t : State, CoeffsCurrent s → step s = .next t → CoeffsCurrent t

/-- Every word of every network line stays in `[-2.0, 2.0]` (44_fdn_core.md R143 (a)). -/
def Obligations.StepKeepsNetworkWordsBounded : Prop :=
  ∀ s t : State, FdnWordsBounded s → step s = .next t → FdnWordsBounded t

/-- No state element and no response ever holds a subnormal number (40_numerics.md R81). -/
def Obligations.StepKeepsNoSubnormals : Prop :=
  ∀ s t : State, NoSubnormals s → step s = .next t → NoSubnormals t

/-- Heads of equal capacity stay equal, and both capacities count the same samples (41_delay_line.md R108). -/
def Obligations.StepKeepsHeadsInStep : Prop :=
  ∀ s t : State, HeadsInStep s → step s = .next t → HeadsInStep t

/-- The LFO phases stay in `[0, 1)` (45_lfo_modulation.md R156). -/
def Obligations.StepKeepsPhasesInUnit : Prop :=
  ∀ s t : State, TargetsLegal s → SetupDerived s → SmoothersWellFormed s → RampsLegal s → PhasesInUnit s →
    step s = .next t → PhasesInUnit t

/-- A step of the shift register is a logical shift, with the tap mask added when a 1 leaves; it can be undone, so
the register never becomes zero (45_lfo_modulation.md R153, R156). -/
def Obligations.LfsrIsInvertibleAndNeverZero : Prop :=
  (∀ x : BitVec 32, lfsrNext refCfg x = if x.getLsbD 0 then (x >>> 1) ^^^ 0x80200003#32 else x >>> 1) ∧
    Function.Bijective (lfsrNext refCfg) ∧ ∀ s t : State, LfsrNonzero s → step s = .next t → LfsrNonzero t

/-- R143 (c): with the network words bounded, both outputs are finite and below 4.00001 in magnitude. -/
def Obligations.ResponseIsBounded : Prop :=
  ∀ (left right : Operand) (s : State), FdnWordsBounded s →
    ∃ (t : State) (l r : F32), exec (.process left right) s = .next t ∧ t.rsp = some (.audio (l ++ r)) ∧
      isFinite l = true ∧ isFinite r = true ∧ |valueOf l| < 400001 / 100000 ∧ |valueOf r| < 400001 / 100000

/-- After `RAMP` samples with no control command every smoother is idle on its target
(46_param_smoothing.md R161, R162, R166). -/
def Obligations.RampsFinishOnTheirTargets : Prop :=
  ∀ (n : Nat) (s : State), s.setup.prepared = true → TargetsLegal s → SetupDerived s → SmoothersWellFormed s →
    s.setup.ramp.toNat ≤ n → n ≤ s.inputs.length →
    (∀ x ∈ s.inputs, ∃ left right, x = .word (encode (.process left right))) →
    ∃ t, Sys2Proof.core.run n s = .next t ∧ t.targets = s.targets ∧
      ∀ k : Fin 14, t.smoothers[k].cnt = 0 ∧ t.smoothers[k].cur = t.smoothers[k].tgt ∧
        feq s.targets.pt[k] t.smoothers[k].cur = true

/-- While the engine is unprepared no response and no other state depends on a delay line, and the PREPARE that
ends this leaves no trace of one (10_state.md R21; 70_reset_and_hazards.md R220). -/
def Obligations.DelayMemoryIsUnobservableUntilCleared : Prop :=
  ∀ (s : State) (dl : Vector (Line 15) 8) (ap : Vector (Vector (Line 12) 4) 2), s.setup.prepared = false →
    ∃ t t', step s = .next t ∧ step { s with dl := dl, ap := ap } = .next t' ∧
      t' = { t with dl := t'.dl, ap := t'.ap } ∧ (t.setup.prepared = true → t' = t)

/-! ### Components -/

/-- R105: a line used read-before-write from a clear returns, `d` samples behind, the word written `d` writes
ago, and `+0.0` where there was none. -/
def Obligations.DelayLineReturnsItsHistory : Prop :=
  ∀ (w cap : Nat) (xs : List F32) (d : Nat), cap ≤ 2 ^ w → 1 ≤ d → d < cap →
    lineRead cap (xs.foldl (lineWrite cap) (clearLine : Line w)) d = (xs.reverse[d - 1]?).getD 0x00000000#32

/-- R101, R102: a write stores at the head and advances it by one modulo the capacity; a read addresses the word
its clamped delay behind the head, and no index outside the line is formed (20_memory.md R44). A fractional read
interpolates between the two reads around its clamped delay (R103). The canonical form of the line's memory, a
premise here and kept by the write, is the model's (log entry 8). -/
def Obligations.LineOperationsStayInTheLine : Prop :=
  ∀ (w cap : Nat) (l : Line w) (x : F32) (d : Int), 0 < cap → cap ≤ 2 ^ w → l.head.toNat < cap →
    Memory.wf cap l.buf = true →
    ramRead (lineWrite cap l x) l.head.toNat = x ∧
      (lineWrite cap l x).head.toNat = (if l.head.toNat = cap - 1 then 0 else l.head.toNat + 1) ∧
      (∀ a, a ≠ l.head.toNat → ramRead (lineWrite cap l x) a = ramRead l a) ∧
      Memory.wf cap (lineWrite cap l x).buf = true ∧
      (∃ a < cap, lineRead cap l d = ramRead l a ∧
        (a : Int) = (if l.head.toNat < (if d < 0 then 0 else if cap - 1 < d then (cap - 1 : Int) else d)
          then l.head.toNat + cap - (if d < 0 then 0 else if cap - 1 < d then (cap - 1 : Int) else d)
          else l.head.toNat - (if d < 0 then 0 else if cap - 1 < d then (cap - 1 : Int) else d))) ∧
      ∀ e : F32,
        let e' := if isNaN e then 0x00000000#32 else if flt e 0x00000000#32 then 0x00000000#32
          else if flt (i2f (cap - 1)) e then i2f (cap - 1) else e
        let i := ifloor e'
        let x0 := lineRead cap l i
        let x1 := lineRead cap l (if i + 1 < cap then (i + 1 : Int) else cap - 1)
        lineReadInterp cap l e = fadd x0 (fmul (fsub e' (i2f i)) (fsub x1 x0))

/-- DIFFUSE: the four stages in series, the first three read at their length, the last at its modulated and
clamped request; each writes `x + g * delayed` to its own line and passes on `-x + delayed`
(42_allpass_diffuser.md R111, R112, R114). -/
def Obligations.DiffuserChainFollowsItsStages : Prop :=
  ∀ (g apd lfo x0 : F32) (lens : Vector (BitVec 12) 4) (lines : Vector (Line 12) 4),
    let raw := fadd (i2f lens[3].toNat) (fmul apd lfo)
    let dd := fclamp raw 0x3F800000#32 (i2f 4095)
    let u := diffuse refCfg g apd lfo lens lines x0
    (u.clamped = fne dd raw) ∧
      ∃ x : Vector F32 5, x[0] = x0 ∧ u.out = x[4] ∧
        ∀ k : Fin 4,
          let delayed := if k.val < 3 then lineRead 4096 lines[k] lens[k].toNat else lineReadInterp 4096 lines[k] dd
          x[k.val + 1] = fadd (fneg x[k.val]) delayed ∧
            u.lines[k] = lineWrite 4096 lines[k] (fadd x[k.val] (fmul g delayed))

/-- R138: each mixer output is a balanced tree of sums and differences, with the signs of its row of the
Hadamard matrix, scaled once. -/
def Obligations.HadamardIsBalancedTree : Prop :=
  ∀ (f : Vector F32 8) (i : Fin 8),
    let node := fun (b : Nat) (x y : F32) => if i.val.testBit b then fsub x y else fadd x y
    (hadamard refCfg f)[i] =
      fmul 0x3EB504F3#32
        (node 2 (node 1 (node 0 f[0] f[1]) (node 0 f[2] f[3])) (node 1 (node 0 f[4] f[5]) (node 0 f[6] f[7])))

/-- R141, R92, R34: the taps are the sums of the rule, from `+0.0` in ascending slots with their zero products;
and for bounded reads the left tap has the value of the even reads summed with alternating signs in that order, the
right tap that of the odd ones. The zero products change at most the sign of a zero. -/
def Obligations.OutputTapsSumFourReads : Prop :=
  ∀ r : Vector F32 8,
    (let one := fun v : F32 => fmul 0x3F800000#32 v
     let neg := fun v : F32 => fmul 0xBF800000#32 v
     let nul := fun v : F32 => fmul 0x00000000#32 v
     tapSum refCfg.outL r =
        fadd (fadd (fadd (fadd (fadd (fadd (fadd (fadd 0x00000000#32 (one r[0])) (nul r[1])) (neg r[2])) (nul r[3]))
          (one r[4])) (nul r[5])) (neg r[6])) (nul r[7]) ∧
      tapSum refCfg.outR r =
        fadd (fadd (fadd (fadd (fadd (fadd (fadd (fadd 0x00000000#32 (nul r[0])) (one r[1])) (nul r[2])) (neg r[3]))
          (nul r[4])) (one r[5])) (nul r[6])) (neg r[7])) ∧
    ((∀ i : Fin 8, within 0xC0800000#32 0x40800000#32 r[i] = true) →
      feq (tapSum refCfg.outL r) (fsub (fadd (fsub (fadd 0x00000000#32 r[0]) r[2]) r[4]) r[6]) = true ∧
        feq (tapSum refCfg.outR r) (fsub (fadd (fsub (fadd 0x00000000#32 r[1]) r[3]) r[5]) r[7]) = true)

/-- R153, R154: a dither value is exactly the signed upper half of the register over 32768, in `[-1, 1)`, and a
modulator in complex mode stays in `[-1, 1]` when its three parts do. -/
def Obligations.ModulatorsStayInUnit : Prop :=
  (∀ x : BitVec 32, isFinite (ditherValue x) = true ∧
    valueOf (ditherValue x) = ((x.extractLsb' 16 16).toInt : ℚ) / 32768 ∧ -1 ≤ valueOf (ditherValue x) ∧
    valueOf (ditherValue x) < 1) ∧
    ∀ a b n : F32, within 0xBF800000#32 0x3F800000#32 a = true → within 0xBF800000#32 0x3F800000#32 b = true →
      within 0xBF800000#32 0x3F800000#32 n = true →
      within 0xBF800000#32 0x3F800000#32 (complexMod refCfg a b n) = true

/-! ### Numerics (spec/40_numerics.md) -/

/-- R81, R82 on finite operands: each of the four operations flushes its operands, computes the exact result,
rounds it once to nearest even and flushes; an exact zero has the sign of the IEEE rule. -/
def Obligations.ArithmeticRoundsExactResults : Prop :=
  ∀ a b : F32, isFinite a = true → isFinite b = true →
    let x := valueOf (daz a)
    let y := valueOf (daz b)
    (if x + y = 0 then fadd a b = (if signBit a && signBit b then 0x80000000#32 else 0x00000000#32)
      else ∃ u, IsRounding (x + y) u ∧ fadd a b = ftz u) ∧
    (if x - y = 0 then fsub a b = (if signBit a && !signBit b then 0x80000000#32 else 0x00000000#32)
      else ∃ u, IsRounding (x - y) u ∧ fsub a b = ftz u) ∧
    (if x * y = 0 then fmul a b = (if signBit a != signBit b then 0x80000000#32 else 0x00000000#32)
      else ∃ u, IsRounding (x * y) u ∧ fmul a b = ftz u) ∧
    (y ≠ 0 → if x = 0 then fdiv a b = (if signBit a != signBit b then 0x80000000#32 else 0x00000000#32)
      else ∃ u, IsRounding (x / y) u ∧ fdiv a b = ftz u)

/-- R82 on the other operands: NaN operands and invalid operations give a NaN, an infinity keeps its IEEE sign,
a finite non-zero value over zero is an infinity of the exclusive-or of the signs. -/
def Obligations.ArithmeticSpecialCases : Prop :=
  ∀ a b : F32,
    let sign : F32 := if signBit a != signBit b then 0x80000000#32 else 0x00000000#32
    (isNaN a = true ∨ isNaN b = true →
      isNaN (fadd a b) = true ∧ isNaN (fsub a b) = true ∧ isNaN (fmul a b) = true ∧ isNaN (fdiv a b) = true) ∧
    (isInf a = true → isInf b = true →
      (if signBit a = signBit b then fadd a b = a ∧ isNaN (fsub a b) = true
        else isNaN (fadd a b) = true ∧ fsub a b = a) ∧
      fmul a b = sign ||| 0x7F800000#32 ∧ isNaN (fdiv a b) = true) ∧
    (isInf a = true → isFinite b = true →
      fadd a b = a ∧ fsub a b = a ∧ fdiv a b = sign ||| 0x7F800000#32 ∧
        if isZero (daz b) = true then isNaN (fmul a b) = true else fmul a b = sign ||| 0x7F800000#32) ∧
    (isFinite a = true → isInf b = true →
      fadd a b = b ∧ fsub a b = fneg b ∧ fdiv a b = sign ∧
        if isZero (daz a) = true then isNaN (fmul a b) = true else fmul a b = sign ||| 0x7F800000#32) ∧
    (isFinite a = true → isZero (daz b) = true →
      if isZero (daz a) = true then isNaN (fdiv a b) = true else fdiv a b = sign ||| 0x7F800000#32) ∧
    signBit (fneg a) = !signBit a ∧ magBits (fneg a) = magBits a

/-- R83: the comparisons of finite numbers are those of their values, an infinity lies beyond every finite
number of its side, every comparison with a NaN is false but `!=`, and `fmax`, `fmin` are the if-chains of the
rule. That a comparison does not flush a subnormal operand, and what `fmax` and `fmin` give on a NaN, is the model's
(log entry 10). -/
def Obligations.ComparisonsAgreeWithValues : Prop :=
  ∀ a b : F32,
    (isFinite a = true → isFinite b = true →
      (flt a b = true ↔ valueOf a < valueOf b) ∧ (fle a b = true ↔ valueOf a ≤ valueOf b) ∧
        (feq a b = true ↔ valueOf a = valueOf b)) ∧
    (isFinite a = true → isInf b = true → (flt a b = true ↔ signBit b = false) ∧ flt b a = !flt a b ∧
      feq a b = false ∧ feq b a = false) ∧
    (isInf a = true → isInf b = true →
      (flt a b = true ↔ signBit a = true ∧ signBit b = false) ∧ (feq a b = true ↔ a = b)) ∧
    (isNaN a = false → isNaN b = false → fle a b = (flt a b || feq a b)) ∧
    (isNaN a = true ∨ isNaN b = true → flt a b = false ∧ fle a b = false ∧ feq a b = false) ∧
    fne a b = !feq a b ∧ (isNaN a = true ↔ fne a a = true) ∧
    fmax a b = (if fle b a = true then a else b) ∧ fmin a b = if fle a b = true then a else b

/-- R85: `i2f` is exact up to `2^24`, `ifloor` is the greatest integer not above its argument, and the fractional
part that `readInterp` forms is exact and in `[0, 1)`. -/
def Obligations.IntegerConversionsAreExact : Prop :=
  (∀ n : Int, |n| ≤ 2 ^ 24 → isFinite (i2f n) = true ∧ valueOf (i2f n) = n) ∧
    (∀ x : F32, isFinite x = true → fle 0x00000000#32 x = true →
      (ifloor x : ℚ) ≤ valueOf x ∧ valueOf x < ifloor x + 1) ∧
    ∀ d : F32, fle 0x00000000#32 d = true → flt d 0x4B800000#32 = true → isSubnormal d = false →
      valueOf (fsub d (i2f (ifloor d))) = valueOf d - ifloor d ∧ 0 ≤ valueOf (fsub d (i2f (ifloor d))) ∧
        valueOf (fsub d (i2f (ifloor d))) < 1

/-- The exact values R86 (a), R87 (a) and R88 (b) require of `NUM`, of the reference functions the model takes
(log entries 1, 2). -/
def Obligations.ReferenceFunctionsHaveExactValues : Prop :=
  refNum.pow10 0x00000000#32 = 0x3F800000#32 ∧ refNum.pow10 0x80000000#32 = 0x3F800000#32 ∧
    refNum.fexp 0x00000000#32 = 0x3F800000#32 ∧ refNum.fexp 0x80000000#32 = 0x3F800000#32 ∧
    refNum.sin2pi 0x00000000#32 = 0x00000000#32 ∧ refNum.sin2pi 0x3E800000#32 = 0x3F800000#32 ∧
    refNum.sin2pi 0x3F000000#32 = 0x00000000#32 ∧ refNum.sin2pi 0x3F400000#32 = 0xBF800000#32 ∧
    refNum.cos2pi 0x00000000#32 = 0x3F800000#32 ∧ refNum.cos2pi 0x3E800000#32 = 0x00000000#32 ∧
    refNum.cos2pi 0x3F000000#32 = 0xBF800000#32

/-! ### Coefficients (spec/43_decay_filter.md) -/

/-- RECOMPUTE, spelled out for the reference configuration: the band times (R121), the lengths and whether one is
clamped (R125), the decay gains (R122), the crossover coefficients (R123) and the peaking section (R124). -/
def Obligations.RecomputeFollowsItsRules : Prop :=
  ∀ (mode : Mode) (fs fsk : F32) (cur : Vector F32 14),
    let k := coeffsOf refCfg mode fs fsk cur
    let floor := fun x : F32 => if fle x 0x3DCCCCCD#32 then 0x3DCCCCCD#32 else x
    let raw := fun i : Fin 8 => fmul (fmul (i2f (refCfg.base48[modeIndex mode][i])) cur[1]) fsk
    let gain := fun (i : Fin 8) (rt : F32) => refNum.pow10 (fdiv (fmul 0xC0400000#32 (fdiv k.len[i] fs)) rt)
    let corner := fun fc : F32 => fsub 0x3F800000#32 (refNum.fexp (fmul 0xC0C90FDB#32 (fdiv fc fs)))
    let t := if fle (fdiv cur[11] fs) 0x3EE66666#32 then fdiv cur[11] fs else 0x3EE66666#32
    let amp := refNum.pow10 (fdiv cur[13] 0x42200000#32)
    let alpha := fdiv (refNum.sin2pi t) (fmul 0x40000000#32 cur[12])
    let a0 := fadd 0x3F800000#32 (fdiv alpha amp)
    k.rtl = floor (fmul cur[0] cur[3]) ∧ k.rtm = floor (fmul cur[0] cur[4]) ∧
      k.rth = floor (fmul (fmul cur[0] cur[5]) (fsub 0x3F800000#32 cur[2])) ∧
      (∀ i : Fin 8, k.len[i] =
        (if isNaN (raw i) then 0x00000000#32 else if flt (raw i) 0x3F800000#32 then 0x3F800000#32
          else if flt (i2f 32767) (raw i) then i2f 32767 else raw i) ∧
        k.gl[i] = gain i k.rtl ∧ k.gm[i] = gain i k.rtm ∧ k.gh[i] = gain i k.rth) ∧
      (lengthClamped refCfg mode fsk cur[1] = true ↔ ∃ i : Fin 8, fne k.len[i] (raw i) = true) ∧
      k.clo = corner cur[6] ∧ k.chi = corner cur[7] ∧
      k.b0 = fdiv (fadd 0x3F800000#32 (fmul alpha amp)) a0 ∧
      k.b1 = fdiv (fmul 0xC0000000#32 (refNum.cos2pi t)) a0 ∧
      k.b2 = fdiv (fsub 0x3F800000#32 (fmul alpha amp)) a0 ∧ k.a1 = k.b1 ∧
      k.a2 = fdiv (fsub 0x3F800000#32 (fdiv alpha amp)) a0

/-- No nominal length of the reference configuration is ever clamped (10_state.md R32; R125). -/
def Obligations.NominalLengthsNeverClamp : Prop :=
  ∀ (m : Mode) (fs room : F32) (i : Fin 8), within 0x45FA0000#32 0x483B8000#32 fs = true →
    legalParam 1 room = true →
    lengthClamped refCfg m (fdiv fs refCfg.fsRef) room = false ∧
      within 0x3F800000#32 (i2f 32767) (nominalLength refCfg m (fdiv fs refCfg.fsRef) room i) = true

/-- A peaking section of 0 dB is an identity: its coefficients satisfy `B0 = 1.0`, `B1 = A1`, `B2 = A2` bit for bit
for every `NUM` with `pow10` of a zero 1.0 and a finite, non-negative `alpha` (R124), and then DECAY passes the
weighted band sum through and keeps the biquad's state zero (R130 (b)). -/
def Obligations.FlatPeakingIsIdentity : Prop :=
  (∀ (c : Config) (fs f0 q gdb : F32), isZero gdb = true → c.num.pow10 0x00000000#32 = 0x3F800000#32 →
    c.num.pow10 0x80000000#32 = 0x3F800000#32 →
    (let alpha := fdiv (c.num.sin2pi (fmin (fdiv f0 fs) c.tMax)) (fmul 0x40000000#32 q)
     isFinite alpha = true ∧ fle 0x00000000#32 alpha = true ∧ isFinite (fadd 0x3F800000#32 alpha) = true) →
    (peaking c fs f0 q gdb).b0 = 0x3F800000#32 ∧ (peaking c fs f0 q gdb).b1 = (peaking c fs f0 q gdb).a1 ∧
      (peaking c fs f0 q gdb).b2 = (peaking c fs f0 q gdb).a2) ∧
    ∀ (k : Coeffs) (i : Fin 8) (f : SlotFilter) (x : F32),
      k.b0 = 0x3F800000#32 → k.b1 = k.a1 → k.b2 = k.a2 → isZero f.z1 = true → isZero f.z2 = true →
      (let v := bandSum k i (onePole k.clo f.lp1 x) (onePole k.chi f.lp2 x) x
       isFinite v = true ∧ isFinite (fmul k.b1 v) = true ∧ isFinite (fmul k.b2 v) = true →
        feq (decay k i f x).out v = true ∧ isZero (decay k i f x).filter.z1 = true ∧
          isZero (decay k i f x).filter.z2 = true)
end

