-- ==== Sys2Proof/Laws/Memory.lean ====
section
/-! SUPPORT. The laws of the delay memories: the canonical form is kept, a read after a write. -/

namespace Sys2Proof.Machine

/-- A memory that rises from a higher index rises from a lower one. -/
theorem memRising_mono {cap lo lo' : Nat} (h : lo ≤ lo') {m : Memory} (hm : memRising cap lo' m = true) :
    memRising cap lo m = true := by
  cases m with
  | nil => rfl
  | cons e m => simp only [memRising, Bool.and_eq_true, decide_eq_true_eq] at hm ⊢; exact ⟨⟨⟨by omega, hm.1.1.2⟩, hm.1.2⟩, hm.2⟩

/-- A word below the first index of a rising memory is unlisted. -/
theorem memRead_below {cap : Nat} {m : Memory} {lo a : Nat} (hm : memRising cap lo m = true) (ha : a < lo) :
    memRead m a = unlistedWord := by
  induction m generalizing lo with
  | nil => rfl
  | cons e m ih =>
    simp only [memRising, Bool.and_eq_true, decide_eq_true_eq] at hm
    rw [memRead, if_neg (by omega)]
    exact ih hm.2 (by omega)

/-- Writing keeps a memory rising from the least index it may hold. -/
theorem memRising_memWrite {cap : Nat} {m : Memory} {lo a : Nat} (v : F32) (hm : memRising cap lo m = true)
    (hlo : lo ≤ a) (ha : a < cap) : memRising cap lo (memWrite m a v) = true := by
  induction m generalizing lo with
  | nil =>
    unfold memWrite
    split <;> simp_all [memRising]
  | cons e m ih =>
    obtain ⟨k, x⟩ := e
    simp only [memRising, Bool.and_eq_true, decide_eq_true_eq, bne_iff_ne] at hm
    unfold memWrite
    split_ifs with h₁ h₂ h₃ h₄
    · simp_all [memRising]
    · simp only [memRising, Bool.and_eq_true, decide_eq_true_eq, bne_iff_ne]
      exact ⟨⟨⟨hlo, ha⟩, h₂⟩, ⟨⟨by omega, hm.1.1.2⟩, hm.1.2⟩, hm.2⟩
    · exact memRising_mono (by omega) hm.2
    · simp only [memRising, Bool.and_eq_true, decide_eq_true_eq, bne_iff_ne]
      exact ⟨⟨⟨hlo, ha⟩, h₄⟩, h₃ ▸ hm.2⟩
    · simp only [memRising, Bool.and_eq_true, decide_eq_true_eq, bne_iff_ne]
      exact ⟨hm.1, ih hm.2 (by omega)⟩

/-- `RamWrite` keeps the canonical form (20_memory.md R43). -/
theorem memWrite_wf {cap : Nat} {m : Memory} {a : Nat} (v : F32) (hm : Memory.wf cap m = true) (ha : a < cap) :
    Memory.wf cap (memWrite m a v) = true :=
  memRising_memWrite v hm (Nat.zero_le a) ha

/-- A read at another index gives what it gave before the write, in every memory. -/
theorem memRead_memWrite_of_ne (m : Memory) {a b : Nat} (v : F32) (h : b ≠ a) :
    memRead (memWrite m a v) b = memRead m b := by
  induction m with
  | nil => unfold memWrite; split <;> simp [memRead, h]
  | cons e m ih =>
    obtain ⟨k, x⟩ := e
    unfold memWrite
    split_ifs <;> simp_all [memRead]

/-- A read after a write to the same index gives the value written, in a canonical memory. -/
theorem memRead_memWrite {cap : Nat} {m : Memory} {lo a : Nat} (v : F32) (hm : memRising cap lo m = true) :
    memRead (memWrite m a v) a = v := by
  induction m generalizing lo with
  | nil => unfold memWrite; split <;> simp_all [memRead]
  | cons e m ih =>
    obtain ⟨k, x⟩ := e
    have hm' := hm
    simp only [memRising, Bool.and_eq_true, decide_eq_true_eq] at hm
    unfold memWrite
    split_ifs with h₁ h₂ h₃ h₄
    · rw [memRead, if_neg (by omega), memRead_below hm.2 (by omega), h₂]
    · simp [memRead]
    · rw [memRead_below hm.2 (by omega), h₄]
    · simp [memRead]
    · rw [memRead, if_neg h₃]
      exact ih hm.2

/-- A test that the unlisted word need not pass holds of every listed word after a write of a word
that passes it. -/
theorem mem_memWrite {m : Memory} {a : Nat} {v : F32} {e : Nat × F32} (h : e ∈ memWrite m a v) :
    e ∈ m ∨ e = (a, v) := by
  induction m with
  | nil => unfold memWrite at h; split at h <;> simp_all
  | cons d m ih =>
    obtain ⟨k, x⟩ := d
    unfold memWrite at h
    split_ifs at h <;> simp_all <;> tauto

/-- The memory of a cleared line is canonical. -/
@[simp] theorem clearLine_wf {w : Nat} (cap : Nat) : Memory.wf cap (clearLine (w := w)).buf = true := rfl

/-- Every word of a cleared line reads `+0.0` (41_delay_line.md R104). -/
@[simp] theorem ramRead_clearLine {w : Nat} (a : Nat) : ramRead (clearLine (w := w)) a = fzero := rfl

@[simp] theorem ramWrite_head {w : Nat} (l : Line w) (a : Nat) (v : F32) : (ramWrite l a v).head = l.head := rfl
@[simp] theorem ramWrite_buf {w : Nat} (l : Line w) (a : Nat) (v : F32) :
    (ramWrite l a v).buf = memWrite l.buf a v := rfl
@[simp] theorem rewind_head {w : Nat} (l : Line w) : (rewind l).head = 0 := rfl
@[simp] theorem rewind_buf {w : Nat} (l : Line w) : (rewind l).buf = l.buf := rfl

end Sys2Proof.Machine
end

