-- ==== Sys2Proof/Laws/Line.lean ====
section
/-! SUPPORT. What the operations of a delay line, of the diffuser and of the network do to lines
(spec/41_delay_line.md, 42_allpass_diffuser.md, 44_fdn_core.md). -/

namespace Sys2Proof.Machine

@[simp] theorem lineWrite_buf {w : Nat} (cap : Nat) (l : Line w) (s : F32) :
    (lineWrite cap l s).buf = memWrite l.buf l.head.toNat s := rfl

@[simp] theorem lineWrite_head {w : Nat} (cap : Nat) (l : Line w) (s : F32) :
    (lineWrite cap l s).head = BitVec.ofNat w ((l.head.toNat + 1) % cap) := rfl

/-- A write to a line keeps its memory canonical when the head lies in the line (R101). -/
theorem lineWrite_wf {w cap : Nat} {l : Line w} (s : F32) (h : Memory.wf cap l.buf = true) (hd : l.head.toNat < cap) :
    Memory.wf cap (lineWrite cap l s).buf = true :=
  memWrite_wf s h hd

/-- A write to a line leaves every word but the one at the head (R101). -/
theorem ramRead_lineWrite_of_ne {w : Nat} (cap : Nat) (l : Line w) (s : F32) {a : Nat} (h : a ≠ l.head.toNat) :
    ramRead (lineWrite cap l s) a = ramRead l a :=
  memRead_memWrite_of_ne _ _ h

/-- The lines of the network after one sample, slot by slot (44_fdn_core.md R140). -/
theorem fdnStep_dl (c : Config) (frz : Bool) (k : Coeffs) (f : Vector SlotFilter 8) (dl : Vector (Line 15) 8)
    (uL uR d : F32) (mods : Vector F32 8) (i : Fin 8) :
    ∃ v, (fdnStep c frz k f dl uL uR d mods).dl[i] = fdnWrite c dl[i] v :=
  ⟨_, Vector.getElem_zipWith ..⟩

/-- The lines of a diffuser chain after one sample, stage by stage (42_allpass_diffuser.md R111). -/
theorem diffuse_lines (c : Config) (g apd lfo : F32) (lens : Vector (BitVec 12) 4) (lines : Vector (Line 12) 4)
    (x0 : F32) (k : Fin 4) : ∃ v, (diffuse c g apd lfo lens lines x0).lines[k] = lineWrite c.capAp lines[k] v :=
  ⟨_, Vector.getElem_ofFn ..⟩

end Sys2Proof.Machine
end

