-- ==== Sys2Proof/Laws/PerInstr.lean ====
section
/-! SUPPORT. Facts about every instruction as syntax, one lemma a constructor. -/

namespace Sys2Proof.Laws.TableMatch

/-- The mask of a command's row (30_encoding.md R62). -/
def rowMask : Instr → CmdWord
  | .nop | .prepare _ _ | .reset | .process _ _ | .rdstat => 0xFFFFFFFF0000000000000000
  | .setp _ _ | .setmode _ | .setfrz _ | .setcpx _ => 0xFF00FFFF0000000000000000

/-- The match of a command's row (30_encoding.md R62). -/
def rowMatch : Instr → CmdWord
  | .nop => 0x000000000000000000000000
  | .prepare _ _ => 0x010000000000000000000000
  | .reset => 0x020000000000000000000000
  | .process _ _ => 0x030000000000000000000000
  | .rdstat => 0x040000000000000000000000
  | .setp _ _ => 0x100000000000000000000000
  | .setmode _ => 0x110000000000000000000000
  | .setfrz _ => 0x120000000000000000000000
  | .setcpx _ => 0x130000000000000000000000

/-- The word of a well-formed command selects its row of the table (30_encoding.md R62). -/
def Statement (i : Instr) : Prop := i.wellFormed = true → encode i &&& rowMask i = rowMatch i

/-- An assembled word under the mask of the audio-side rows. -/
theorem assemble_audio (opc : BitVec 8) (a b : Operand) :
    assemble opc 0 a b &&& 0xFFFFFFFF0000000000000000 = opc ++ (0 : BitVec 88) := by
  rw [show (0xFFFFFFFF0000000000000000 : BitVec 96) = BitVec.allOnes 8 ++ BitVec.allOnes 8 ++
    BitVec.allOnes 16 ++ (0 : BitVec 32) ++ (0 : BitVec 32) from by decide]
  apply BitVec.eq_of_getLsbD_eq
  intro i hi
  simp only [assemble, BitVec.getLsbD_and, BitVec.getLsbD_append, BitVec.getLsbD_allOnes,
    Bool.and_false, BitVec.ofNat_eq_ofNat, BitVec.getLsbD_ofNat, Nat.zero_testBit]
  grind

/-- An assembled word under the mask of the control-side rows. -/
theorem assemble_control (opc : BitVec 8) (idx : Idx) (a b : Operand) :
    assemble opc idx a b &&& 0xFF00FFFF0000000000000000 = opc ++ (0 : BitVec 88) := by
  rw [show (0xFF00FFFF0000000000000000 : BitVec 96) = BitVec.allOnes 8 ++ (0 : BitVec 8) ++
    BitVec.allOnes 16 ++ (0 : BitVec 32) ++ (0 : BitVec 32) from by decide]
  apply BitVec.eq_of_getLsbD_eq
  intro i hi
  simp only [assemble, BitVec.getLsbD_and, BitVec.getLsbD_append, BitVec.getLsbD_allOnes,
    Bool.and_false, BitVec.ofNat_eq_ofNat, BitVec.getLsbD_ofNat, Nat.zero_testBit]
  grind

theorem nop : Statement .nop := fun _ => assemble_audio _ _ _
theorem prepare (rate block : Operand) : Statement (.prepare rate block) := fun _ => assemble_audio _ _ _
theorem reset : Statement .reset := fun _ => assemble_audio _ _ _
theorem process (left right : Operand) : Statement (.process left right) := fun _ => assemble_audio _ _ _
theorem rdstat : Statement .rdstat := fun _ => assemble_audio _ _ _
theorem setp (idx : Idx) (value : Operand) : Statement (.setp idx value) := fun _ => assemble_control _ _ _ _
theorem setmode (idx : Idx) : Statement (.setmode idx) := fun _ => assemble_control _ _ _ _
theorem setfrz (idx : Idx) : Statement (.setfrz idx) := fun _ => assemble_control _ _ _ _
theorem setcpx (idx : Idx) : Statement (.setcpx idx) := fun _ => assemble_control _ _ _ _

end Sys2Proof.Laws.TableMatch
end

