-- ==== Sys2Proof/Laws/State.lean ====
section
/-! SUPPORT. One lemma a field for every update of State, true by `rfl`. -/

namespace Sys2Proof.Machine

/-! ### `emit` -/

@[simp] theorem emit_targets (v : Response) (s : State) : (emit v s).targets = s.targets := rfl
@[simp] theorem emit_setup (v : Response) (s : State) : (emit v s).setup = s.setup := rfl
@[simp] theorem emit_active (v : Response) (s : State) : (emit v s).active = s.active := rfl
@[simp] theorem emit_sticky (v : Response) (s : State) : (emit v s).sticky = s.sticky := rfl
@[simp] theorem emit_smoothers (v : Response) (s : State) : (emit v s).smoothers = s.smoothers := rfl
@[simp] theorem emit_coeffs (v : Response) (s : State) : (emit v s).coeffs = s.coeffs := rfl
@[simp] theorem emit_filters (v : Response) (s : State) : (emit v s).filters = s.filters := rfl
@[simp] theorem emit_modulation (v : Response) (s : State) : (emit v s).modulation = s.modulation := rfl
@[simp] theorem emit_dl (v : Response) (s : State) : (emit v s).dl = s.dl := rfl
@[simp] theorem emit_ap (v : Response) (s : State) : (emit v s).ap = s.ap := rfl
@[simp] theorem emit_rsp (v : Response) (s : State) : (emit v s).rsp = some v := rfl
@[simp] theorem emit_inputs (v : Response) (s : State) : (emit v s).inputs = s.inputs := rfl

/-! ### `noResponse` -/

@[simp] theorem noResponse_targets (s : State) : (noResponse s).targets = s.targets := rfl
@[simp] theorem noResponse_setup (s : State) : (noResponse s).setup = s.setup := rfl
@[simp] theorem noResponse_active (s : State) : (noResponse s).active = s.active := rfl
@[simp] theorem noResponse_sticky (s : State) : (noResponse s).sticky = s.sticky := rfl
@[simp] theorem noResponse_smoothers (s : State) : (noResponse s).smoothers = s.smoothers := rfl
@[simp] theorem noResponse_coeffs (s : State) : (noResponse s).coeffs = s.coeffs := rfl
@[simp] theorem noResponse_filters (s : State) : (noResponse s).filters = s.filters := rfl
@[simp] theorem noResponse_modulation (s : State) : (noResponse s).modulation = s.modulation := rfl
@[simp] theorem noResponse_dl (s : State) : (noResponse s).dl = s.dl := rfl
@[simp] theorem noResponse_ap (s : State) : (noResponse s).ap = s.ap := rfl
@[simp] theorem noResponse_rsp (s : State) : (noResponse s).rsp = none := rfl
@[simp] theorem noResponse_inputs (s : State) : (noResponse s).inputs = s.inputs := rfl

/-! ### `acceptInput` -/

@[simp] theorem acceptInput_targets (s : State) : (acceptInput s).targets = s.targets := rfl
@[simp] theorem acceptInput_setup (s : State) : (acceptInput s).setup = s.setup := rfl
@[simp] theorem acceptInput_active (s : State) : (acceptInput s).active = s.active := rfl
@[simp] theorem acceptInput_sticky (s : State) : (acceptInput s).sticky = s.sticky := rfl
@[simp] theorem acceptInput_smoothers (s : State) : (acceptInput s).smoothers = s.smoothers := rfl
@[simp] theorem acceptInput_coeffs (s : State) : (acceptInput s).coeffs = s.coeffs := rfl
@[simp] theorem acceptInput_filters (s : State) : (acceptInput s).filters = s.filters := rfl
@[simp] theorem acceptInput_modulation (s : State) : (acceptInput s).modulation = s.modulation := rfl
@[simp] theorem acceptInput_dl (s : State) : (acceptInput s).dl = s.dl := rfl
@[simp] theorem acceptInput_ap (s : State) : (acceptInput s).ap = s.ap := rfl
@[simp] theorem acceptInput_rsp (s : State) : (acceptInput s).rsp = s.rsp := rfl
@[simp] theorem acceptInput_inputs (s : State) : (acceptInput s).inputs = s.inputs.tail := rfl

/-! ### `presentFirst` -/

@[simp] theorem presentFirst_targets (cmd : CmdWord) (s : State) :
    (presentFirst cmd s).targets = s.targets := rfl
@[simp] theorem presentFirst_setup (cmd : CmdWord) (s : State) : (presentFirst cmd s).setup = s.setup := rfl
@[simp] theorem presentFirst_active (cmd : CmdWord) (s : State) :
    (presentFirst cmd s).active = s.active := rfl
@[simp] theorem presentFirst_sticky (cmd : CmdWord) (s : State) :
    (presentFirst cmd s).sticky = s.sticky := rfl
@[simp] theorem presentFirst_smoothers (cmd : CmdWord) (s : State) :
    (presentFirst cmd s).smoothers = s.smoothers := rfl
@[simp] theorem presentFirst_coeffs (cmd : CmdWord) (s : State) :
    (presentFirst cmd s).coeffs = s.coeffs := rfl
@[simp] theorem presentFirst_filters (cmd : CmdWord) (s : State) :
    (presentFirst cmd s).filters = s.filters := rfl
@[simp] theorem presentFirst_modulation (cmd : CmdWord) (s : State) :
    (presentFirst cmd s).modulation = s.modulation := rfl
@[simp] theorem presentFirst_dl (cmd : CmdWord) (s : State) : (presentFirst cmd s).dl = s.dl := rfl
@[simp] theorem presentFirst_ap (cmd : CmdWord) (s : State) : (presentFirst cmd s).ap = s.ap := rfl
@[simp] theorem presentFirst_rsp (cmd : CmdWord) (s : State) : (presentFirst cmd s).rsp = s.rsp := rfl
@[simp] theorem presentFirst_inputs (cmd : CmdWord) (s : State) :
    (presentFirst cmd s).inputs = .word cmd :: s.inputs := rfl

/-! ### RECOMPUTE -/

@[simp] theorem recompute_targets (c : Config) (s : State) : (recompute c s).targets = s.targets := rfl
@[simp] theorem recompute_setup (c : Config) (s : State) : (recompute c s).setup = s.setup := rfl
@[simp] theorem recompute_active (c : Config) (s : State) : (recompute c s).active = s.active := rfl
@[simp] theorem recompute_sticky (c : Config) (s : State) :
    (recompute c s).sticky =
      flagDcl (lengthClamped c s.active.mode s.setup.fsk (currents s.smoothers)[1]) s.sticky := rfl
@[simp] theorem recompute_smoothers (c : Config) (s : State) : (recompute c s).smoothers = s.smoothers := rfl
@[simp] theorem recompute_coeffs (c : Config) (s : State) :
    (recompute c s).coeffs =
      coeffsOf c s.active.mode s.setup.fs s.setup.fsk (currents s.smoothers) := rfl
@[simp] theorem recompute_filters (c : Config) (s : State) : (recompute c s).filters = s.filters := rfl
@[simp] theorem recompute_modulation (c : Config) (s : State) :
    (recompute c s).modulation = s.modulation := rfl
@[simp] theorem recompute_dl (c : Config) (s : State) : (recompute c s).dl = s.dl := rfl
@[simp] theorem recompute_ap (c : Config) (s : State) : (recompute c s).ap = s.ap := rfl
@[simp] theorem recompute_rsp (c : Config) (s : State) : (recompute c s).rsp = s.rsp := rfl
@[simp] theorem recompute_inputs (c : Config) (s : State) : (recompute c s).inputs = s.inputs := rfl

/-! ### ENGINECLEAR -/

@[simp] theorem engineClear_targets (c : Config) (s : State) : (engineClear c s).targets = s.targets := rfl
@[simp] theorem engineClear_setup (c : Config) (s : State) : (engineClear c s).setup = s.setup := rfl
@[simp] theorem engineClear_active (c : Config) (s : State) : (engineClear c s).active = s.active := rfl
@[simp] theorem engineClear_sticky (c : Config) (s : State) : (engineClear c s).sticky = s.sticky := rfl
@[simp] theorem engineClear_smoothers (c : Config) (s : State) :
    (engineClear c s).smoothers = s.smoothers := rfl
@[simp] theorem engineClear_coeffs (c : Config) (s : State) : (engineClear c s).coeffs = s.coeffs := rfl
@[simp] theorem engineClear_filters (c : Config) (s : State) : (engineClear c s).filters = clearFilters := rfl
@[simp] theorem engineClear_modulation (c : Config) (s : State) :
    (engineClear c s).modulation = clearModulation c := rfl
@[simp] theorem engineClear_dl (c : Config) (s : State) :
    (engineClear c s).dl = Vector.replicate 8 clearLine := rfl
@[simp] theorem engineClear_ap (c : Config) (s : State) :
    (engineClear c s).ap = Vector.replicate 2 (Vector.replicate 4 clearLine) := rfl
@[simp] theorem engineClear_rsp (c : Config) (s : State) : (engineClear c s).rsp = s.rsp := rfl
@[simp] theorem engineClear_inputs (c : Config) (s : State) : (engineClear c s).inputs = s.inputs := rfl

/-! ### SNAP -/

@[simp] theorem snap_targets (s : State) : (snap s).targets = s.targets := rfl
@[simp] theorem snap_setup (s : State) : (snap s).setup = s.setup := rfl
@[simp] theorem snap_active (s : State) : (snap s).active = s.active := rfl
@[simp] theorem snap_sticky (s : State) : (snap s).sticky = s.sticky := rfl
@[simp] theorem snap_smoothers (s : State) : (snap s).smoothers = snapAll s.targets.pt := rfl
@[simp] theorem snap_coeffs (s : State) : (snap s).coeffs = s.coeffs := rfl
@[simp] theorem snap_filters (s : State) : (snap s).filters = s.filters := rfl
@[simp] theorem snap_modulation (s : State) : (snap s).modulation = s.modulation := rfl
@[simp] theorem snap_dl (s : State) : (snap s).dl = s.dl := rfl
@[simp] theorem snap_ap (s : State) : (snap s).ap = s.ap := rfl
@[simp] theorem snap_rsp (s : State) : (snap s).rsp = s.rsp := rfl
@[simp] theorem snap_inputs (s : State) : (snap s).inputs = s.inputs := rfl

/-! ### `latchControls` -/

@[simp] theorem latchControls_targets (s : State) : (latchControls s).targets = s.targets := rfl
@[simp] theorem latchControls_setup (s : State) : (latchControls s).setup = s.setup := rfl
@[simp] theorem latchControls_active (s : State) :
    (latchControls s).active =
      { mode := s.targets.modeT, frz := s.targets.frzT, cpx := s.targets.cpxT } := rfl
@[simp] theorem latchControls_sticky (s : State) : (latchControls s).sticky = s.sticky := rfl
@[simp] theorem latchControls_smoothers (s : State) : (latchControls s).smoothers = s.smoothers := rfl
@[simp] theorem latchControls_coeffs (s : State) : (latchControls s).coeffs = s.coeffs := rfl
@[simp] theorem latchControls_filters (s : State) : (latchControls s).filters = s.filters := rfl
@[simp] theorem latchControls_modulation (s : State) : (latchControls s).modulation = s.modulation := rfl
@[simp] theorem latchControls_dl (s : State) : (latchControls s).dl = s.dl := rfl
@[simp] theorem latchControls_ap (s : State) : (latchControls s).ap = s.ap := rfl
@[simp] theorem latchControls_rsp (s : State) : (latchControls s).rsp = s.rsp := rfl
@[simp] theorem latchControls_inputs (s : State) : (latchControls s).inputs = s.inputs := rfl

/-! ### `illegalWord` -/

@[simp] theorem illegalWord_targets (s : State) : (illegalWord s).targets = s.targets := rfl
@[simp] theorem illegalWord_setup (s : State) : (illegalWord s).setup = s.setup := rfl
@[simp] theorem illegalWord_active (s : State) : (illegalWord s).active = s.active := rfl
@[simp] theorem illegalWord_sticky (s : State) : (illegalWord s).sticky = flagIll s.sticky := rfl
@[simp] theorem illegalWord_smoothers (s : State) : (illegalWord s).smoothers = s.smoothers := rfl
@[simp] theorem illegalWord_coeffs (s : State) : (illegalWord s).coeffs = s.coeffs := rfl
@[simp] theorem illegalWord_filters (s : State) : (illegalWord s).filters = s.filters := rfl
@[simp] theorem illegalWord_modulation (s : State) : (illegalWord s).modulation = s.modulation := rfl
@[simp] theorem illegalWord_dl (s : State) : (illegalWord s).dl = s.dl := rfl
@[simp] theorem illegalWord_ap (s : State) : (illegalWord s).ap = s.ap := rfl
@[simp] theorem illegalWord_rsp (s : State) : (illegalWord s).rsp = none := rfl
@[simp] theorem illegalWord_inputs (s : State) : (illegalWord s).inputs = s.inputs := rfl

/-! ### `prepareFail` -/

@[simp] theorem prepareFail_targets (s : State) : (prepareFail s).targets = s.targets := rfl
@[simp] theorem prepareFail_setup (s : State) :
    (prepareFail s).setup = { s.setup with prepared := false } := rfl
@[simp] theorem prepareFail_active (s : State) : (prepareFail s).active = s.active := rfl
@[simp] theorem prepareFail_sticky (s : State) : (prepareFail s).sticky = flagPfail s.sticky := rfl
@[simp] theorem prepareFail_smoothers (s : State) : (prepareFail s).smoothers = s.smoothers := rfl
@[simp] theorem prepareFail_coeffs (s : State) : (prepareFail s).coeffs = s.coeffs := rfl
@[simp] theorem prepareFail_filters (s : State) : (prepareFail s).filters = s.filters := rfl
@[simp] theorem prepareFail_modulation (s : State) : (prepareFail s).modulation = s.modulation := rfl
@[simp] theorem prepareFail_dl (s : State) : (prepareFail s).dl = s.dl := rfl
@[simp] theorem prepareFail_ap (s : State) : (prepareFail s).ap = s.ap := rfl
@[simp] theorem prepareFail_rsp (s : State) : (prepareFail s).rsp = s.rsp := rfl
@[simp] theorem prepareFail_inputs (s : State) : (prepareFail s).inputs = s.inputs := rfl

/-! ### `writeTarget` -/

@[simp] theorem writeTarget_targets (k : Fin 14) (w : F32) (s : State) :
    (writeTarget k w s).targets = { s.targets with pt := s.targets.pt.set k.val w } := rfl
@[simp] theorem writeTarget_setup (k : Fin 14) (w : F32) (s : State) :
    (writeTarget k w s).setup = s.setup := rfl
@[simp] theorem writeTarget_active (k : Fin 14) (w : F32) (s : State) :
    (writeTarget k w s).active = s.active := rfl
@[simp] theorem writeTarget_sticky (k : Fin 14) (w : F32) (s : State) :
    (writeTarget k w s).sticky = s.sticky := rfl
@[simp] theorem writeTarget_smoothers (k : Fin 14) (w : F32) (s : State) :
    (writeTarget k w s).smoothers = s.smoothers := rfl
@[simp] theorem writeTarget_coeffs (k : Fin 14) (w : F32) (s : State) :
    (writeTarget k w s).coeffs = s.coeffs := rfl
@[simp] theorem writeTarget_filters (k : Fin 14) (w : F32) (s : State) :
    (writeTarget k w s).filters = s.filters := rfl
@[simp] theorem writeTarget_modulation (k : Fin 14) (w : F32) (s : State) :
    (writeTarget k w s).modulation = s.modulation := rfl
@[simp] theorem writeTarget_dl (k : Fin 14) (w : F32) (s : State) : (writeTarget k w s).dl = s.dl := rfl
@[simp] theorem writeTarget_ap (k : Fin 14) (w : F32) (s : State) : (writeTarget k w s).ap = s.ap := rfl
@[simp] theorem writeTarget_rsp (k : Fin 14) (w : F32) (s : State) : (writeTarget k w s).rsp = s.rsp := rfl
@[simp] theorem writeTarget_inputs (k : Fin 14) (w : F32) (s : State) :
    (writeTarget k w s).inputs = s.inputs := rfl

/-! ### `setModeWith` -/

@[simp] theorem setModeWith_targets (c : Config) (idx : Idx) (s : State) :
    (setModeWith c idx s).targets = loadPreset c (modeOfIdx idx) s.targets := rfl
@[simp] theorem setModeWith_setup (c : Config) (idx : Idx) (s : State) :
    (setModeWith c idx s).setup = s.setup := rfl
@[simp] theorem setModeWith_active (c : Config) (idx : Idx) (s : State) :
    (setModeWith c idx s).active = s.active := rfl
@[simp] theorem setModeWith_sticky (c : Config) (idx : Idx) (s : State) :
    (setModeWith c idx s).sticky = flagPcl (modeClamped idx) s.sticky := rfl
@[simp] theorem setModeWith_smoothers (c : Config) (idx : Idx) (s : State) :
    (setModeWith c idx s).smoothers = s.smoothers := rfl
@[simp] theorem setModeWith_coeffs (c : Config) (idx : Idx) (s : State) :
    (setModeWith c idx s).coeffs = s.coeffs := rfl
@[simp] theorem setModeWith_filters (c : Config) (idx : Idx) (s : State) :
    (setModeWith c idx s).filters = s.filters := rfl
@[simp] theorem setModeWith_modulation (c : Config) (idx : Idx) (s : State) :
    (setModeWith c idx s).modulation = s.modulation := rfl
@[simp] theorem setModeWith_dl (c : Config) (idx : Idx) (s : State) : (setModeWith c idx s).dl = s.dl := rfl
@[simp] theorem setModeWith_ap (c : Config) (idx : Idx) (s : State) : (setModeWith c idx s).ap = s.ap := rfl
@[simp] theorem setModeWith_rsp (c : Config) (idx : Idx) (s : State) :
    (setModeWith c idx s).rsp = none := rfl
@[simp] theorem setModeWith_inputs (c : Config) (idx : Idx) (s : State) :
    (setModeWith c idx s).inputs = s.inputs := rfl

/-! ### `setFreeze` -/

@[simp] theorem setFreeze_targets (idx : Idx) (s : State) :
    (setFreeze idx s).targets = { s.targets with frzT := flagOfIdx idx } := rfl
@[simp] theorem setFreeze_setup (idx : Idx) (s : State) : (setFreeze idx s).setup = s.setup := rfl
@[simp] theorem setFreeze_active (idx : Idx) (s : State) : (setFreeze idx s).active = s.active := rfl
@[simp] theorem setFreeze_sticky (idx : Idx) (s : State) : (setFreeze idx s).sticky = s.sticky := rfl
@[simp] theorem setFreeze_smoothers (idx : Idx) (s : State) : (setFreeze idx s).smoothers = s.smoothers := rfl
@[simp] theorem setFreeze_coeffs (idx : Idx) (s : State) : (setFreeze idx s).coeffs = s.coeffs := rfl
@[simp] theorem setFreeze_filters (idx : Idx) (s : State) : (setFreeze idx s).filters = s.filters := rfl
@[simp] theorem setFreeze_modulation (idx : Idx) (s : State) : (setFreeze idx s).modulation = s.modulation := rfl
@[simp] theorem setFreeze_dl (idx : Idx) (s : State) : (setFreeze idx s).dl = s.dl := rfl
@[simp] theorem setFreeze_ap (idx : Idx) (s : State) : (setFreeze idx s).ap = s.ap := rfl
@[simp] theorem setFreeze_rsp (idx : Idx) (s : State) : (setFreeze idx s).rsp = none := rfl
@[simp] theorem setFreeze_inputs (idx : Idx) (s : State) : (setFreeze idx s).inputs = s.inputs := rfl

/-! ### `setComplex` -/

@[simp] theorem setComplex_targets (idx : Idx) (s : State) :
    (setComplex idx s).targets = { s.targets with cpxT := flagOfIdx idx } := rfl
@[simp] theorem setComplex_setup (idx : Idx) (s : State) : (setComplex idx s).setup = s.setup := rfl
@[simp] theorem setComplex_active (idx : Idx) (s : State) : (setComplex idx s).active = s.active := rfl
@[simp] theorem setComplex_sticky (idx : Idx) (s : State) : (setComplex idx s).sticky = s.sticky := rfl
@[simp] theorem setComplex_smoothers (idx : Idx) (s : State) : (setComplex idx s).smoothers = s.smoothers := rfl
@[simp] theorem setComplex_coeffs (idx : Idx) (s : State) : (setComplex idx s).coeffs = s.coeffs := rfl
@[simp] theorem setComplex_filters (idx : Idx) (s : State) : (setComplex idx s).filters = s.filters := rfl
@[simp] theorem setComplex_modulation (idx : Idx) (s : State) : (setComplex idx s).modulation = s.modulation := rfl
@[simp] theorem setComplex_dl (idx : Idx) (s : State) : (setComplex idx s).dl = s.dl := rfl
@[simp] theorem setComplex_ap (idx : Idx) (s : State) : (setComplex idx s).ap = s.ap := rfl
@[simp] theorem setComplex_rsp (idx : Idx) (s : State) : (setComplex idx s).rsp = none := rfl
@[simp] theorem setComplex_inputs (idx : Idx) (s : State) : (setComplex idx s).inputs = s.inputs := rfl

/-! ### Commands that are one operation and a response -/

@[simp] theorem resetCommandWith_eq (c : Config) (s : State) : resetCommandWith c s = noResponse (reload c s) := rfl
@[simp] theorem reportStatus_eq (s : State) : reportStatus s = emit (.status (statusWord s)) s := rfl

/-! ### `RSP64` -/

/-- The fields of the 64-bit response are the words it was formed from (30_encoding.md R66). -/
@[simp] theorem outputLeft_rsp64 (l r : F32) : outputLeft (rsp64 l r) = l := by
  simpa [outputLeft, rsp64] using BitVec.extractLsb'_append_eq_left (a := l) (b := r)
@[simp] theorem outputRight_rsp64 (l r : F32) : outputRight (rsp64 l r) = r := by
  simpa [outputRight, rsp64] using BitVec.extractLsb'_append_eq_right (a := l) (b := r)

/-- Every 64-bit response is formed from its fields. -/
theorem rsp64_fields (w : BitVec 64) : rsp64 (outputLeft w) (outputRight w) = w := by
  apply BitVec.eq_of_getLsbD_eq
  intro i hi
  change (outputLeft w ++ outputRight w).getLsbD i = w.getLsbD i
  rw [BitVec.getLsbD_append, outputLeft, outputRight, BitVec.getLsbD_extractLsb', BitVec.getLsbD_extractLsb']
  split
  · simp_all
  · rw [show 32 + (i - 32) = i by omega, decide_eq_true (by omega), Bool.true_and]

/-! ### `reload` -/

@[simp] theorem reload_targets (c : Config) (s : State) : (reload c s).targets = s.targets := rfl
@[simp] theorem reload_setup (c : Config) (s : State) : (reload c s).setup = s.setup := rfl
@[simp] theorem reload_active (c : Config) (s : State) :
    (reload c s).active =
      { mode := s.targets.modeT, frz := s.targets.frzT, cpx := s.targets.cpxT } := rfl
@[simp] theorem reload_sticky (c : Config) (s : State) :
    (reload c s).sticky =
      flagDcl (lengthClamped c s.targets.modeT s.setup.fsk (currents (snapAll s.targets.pt))[1]) s.sticky := rfl
@[simp] theorem reload_smoothers (c : Config) (s : State) :
    (reload c s).smoothers = snapAll s.targets.pt := rfl
@[simp] theorem reload_coeffs (c : Config) (s : State) :
    (reload c s).coeffs =
      coeffsOf c s.targets.modeT s.setup.fs s.setup.fsk (currents (snapAll s.targets.pt)) := rfl
@[simp] theorem reload_filters (c : Config) (s : State) : (reload c s).filters = clearFilters := rfl
@[simp] theorem reload_modulation (c : Config) (s : State) :
    (reload c s).modulation = clearModulation c := rfl
@[simp] theorem reload_dl (c : Config) (s : State) : (reload c s).dl = Vector.replicate 8 clearLine := rfl
@[simp] theorem reload_ap (c : Config) (s : State) :
    (reload c s).ap = Vector.replicate 2 (Vector.replicate 4 clearLine) := rfl
@[simp] theorem reload_rsp (c : Config) (s : State) : (reload c s).rsp = s.rsp := rfl
@[simp] theorem reload_inputs (c : Config) (s : State) : (reload c s).inputs = s.inputs := rfl

/-! ### Sticky bits -/

@[simp] theorem flagPcl_pcl (on : Bool) (k : Sticky) : (flagPcl on k).pcl = (k.pcl || on) := rfl
@[simp] theorem flagPcl_icl (on : Bool) (k : Sticky) : (flagPcl on k).icl = k.icl := rfl
@[simp] theorem flagPcl_dcl (on : Bool) (k : Sticky) : (flagPcl on k).dcl = k.dcl := rfl
@[simp] theorem flagPcl_fcl (on : Bool) (k : Sticky) : (flagPcl on k).fcl = k.fcl := rfl
@[simp] theorem flagPcl_pfail (on : Bool) (k : Sticky) : (flagPcl on k).pfail = k.pfail := rfl
@[simp] theorem flagPcl_ill (on : Bool) (k : Sticky) : (flagPcl on k).ill = k.ill := rfl
@[simp] theorem flagIcl_pcl (on : Bool) (k : Sticky) : (flagIcl on k).pcl = k.pcl := rfl
@[simp] theorem flagIcl_icl (on : Bool) (k : Sticky) : (flagIcl on k).icl = (k.icl || on) := rfl
@[simp] theorem flagIcl_dcl (on : Bool) (k : Sticky) : (flagIcl on k).dcl = k.dcl := rfl
@[simp] theorem flagIcl_fcl (on : Bool) (k : Sticky) : (flagIcl on k).fcl = k.fcl := rfl
@[simp] theorem flagIcl_pfail (on : Bool) (k : Sticky) : (flagIcl on k).pfail = k.pfail := rfl
@[simp] theorem flagIcl_ill (on : Bool) (k : Sticky) : (flagIcl on k).ill = k.ill := rfl
@[simp] theorem flagDcl_pcl (on : Bool) (k : Sticky) : (flagDcl on k).pcl = k.pcl := rfl
@[simp] theorem flagDcl_icl (on : Bool) (k : Sticky) : (flagDcl on k).icl = k.icl := rfl
@[simp] theorem flagDcl_dcl (on : Bool) (k : Sticky) : (flagDcl on k).dcl = (k.dcl || on) := rfl
@[simp] theorem flagDcl_fcl (on : Bool) (k : Sticky) : (flagDcl on k).fcl = k.fcl := rfl
@[simp] theorem flagDcl_pfail (on : Bool) (k : Sticky) : (flagDcl on k).pfail = k.pfail := rfl
@[simp] theorem flagDcl_ill (on : Bool) (k : Sticky) : (flagDcl on k).ill = k.ill := rfl
@[simp] theorem flagFcl_pcl (on : Bool) (k : Sticky) : (flagFcl on k).pcl = k.pcl := rfl
@[simp] theorem flagFcl_icl (on : Bool) (k : Sticky) : (flagFcl on k).icl = k.icl := rfl
@[simp] theorem flagFcl_dcl (on : Bool) (k : Sticky) : (flagFcl on k).dcl = k.dcl := rfl
@[simp] theorem flagFcl_fcl (on : Bool) (k : Sticky) : (flagFcl on k).fcl = (k.fcl || on) := rfl
@[simp] theorem flagFcl_pfail (on : Bool) (k : Sticky) : (flagFcl on k).pfail = k.pfail := rfl
@[simp] theorem flagFcl_ill (on : Bool) (k : Sticky) : (flagFcl on k).ill = k.ill := rfl
@[simp] theorem flagPfail_pcl (k : Sticky) : (flagPfail k).pcl = k.pcl := rfl
@[simp] theorem flagPfail_icl (k : Sticky) : (flagPfail k).icl = k.icl := rfl
@[simp] theorem flagPfail_dcl (k : Sticky) : (flagPfail k).dcl = k.dcl := rfl
@[simp] theorem flagPfail_fcl (k : Sticky) : (flagPfail k).fcl = k.fcl := rfl
@[simp] theorem flagPfail_pfail (k : Sticky) : (flagPfail k).pfail = true := rfl
@[simp] theorem flagPfail_ill (k : Sticky) : (flagPfail k).ill = k.ill := rfl
@[simp] theorem flagIll_pcl (k : Sticky) : (flagIll k).pcl = k.pcl := rfl
@[simp] theorem flagIll_icl (k : Sticky) : (flagIll k).icl = k.icl := rfl
@[simp] theorem flagIll_dcl (k : Sticky) : (flagIll k).dcl = k.dcl := rfl
@[simp] theorem flagIll_fcl (k : Sticky) : (flagIll k).fcl = k.fcl := rfl
@[simp] theorem flagIll_pfail (k : Sticky) : (flagIll k).pfail = k.pfail := rfl
@[simp] theorem flagIll_ill (k : Sticky) : (flagIll k).ill = true := rfl

end Sys2Proof.Machine
end

