-- ==== Sys2Proof/Machine/Command.lean ====
section
/-! DEFINITION. The machine under any configuration, in the form of spec/10_state.md R23:
`CFG -> State -> Command -> State x Option Response`. `step` is the instance at `refCfg`
(Sys2Proof/Laws/Step.lean, `step_eq_stepWith`; log entry 3). -/

namespace Sys2Proof.Machine

/-- The state after a decoded command under a configuration; its response stands in `rsp`. -/
def commandWith (c : Config) (i : Instr) (s : State) : State :=
  match i with
  | .nop => noResponse s
  | .prepare rate block => prepareWith c rate block s
  | .reset => resetCommandWith c s
  | .process left right => processWith c left right s
  | .rdstat => reportStatus s
  | .setp idx value => setpWith c idx value s
  | .setmode idx => setModeWith c idx s
  | .setfrz idx => setFreeze idx s
  | .setcpx idx => setComplex idx s

/-- The state after a command word under a configuration: its command's effect, or that of an illegal word
(30_encoding.md R64, R70). -/
def wordWith (c : Config) (cmd : CmdWord) (s : State) : State :=
  match decode cmd with
  | .ok i => commandWith c i s
  | .error _ => illegalWord s

/-- The step of R23: a configuration, a state and a command word give a state and at most one response
(30_encoding.md R66). -/
def commandStep (c : Config) (s : State) (cmd : CmdWord) : State × Option Response :=
  let t := wordWith c cmd s
  (t, t.rsp)

/-- One step of the machine under a configuration: the presented input is accepted and takes its whole
effect (20_memory.md R50; 70_reset_and_hazards.md R220). -/
def stepWith (c : Config) (s : State) : State :=
  match nextInput s with
  | .word cmd => (commandStep c (acceptInput s) cmd).1
  | .rst => applyRst c (acceptInput s)

end Sys2Proof.Machine
end

