-- ==== Sys2Proof/Laws/Step.lean ====
section
/-! SUPPORT. What a step can do, said once: the cases of `step` and of `exec`, the parts of PROCESS, and
an induction over runs. -/

namespace Sys2Proof.Machine

/-- The cases of a step: the presented word is a command and is executed, or is illegal, or the input
is RST. -/
theorem step_cases {s t : State} (h : step s = .next t) :
    (∃ cmd i, nextInput s = .word cmd ∧ decode cmd = .ok i ∧ exec i (acceptInput s) = .next t) ∨
      (∃ cmd e, nextInput s = .word cmd ∧ decode cmd = .error e ∧ t = illegalWord (acceptInput s)) ∨
      (nextInput s = .rst ∧ t = applyRst refCfg (acceptInput s)) := by
  unfold step at h
  cases hi : nextInput s with
  | rst => rw [hi] at h; cases h; exact .inr (.inr ⟨rfl, rfl⟩)
  | word cmd =>
    rw [hi] at h
    unfold stepWord at h
    cases hd : decode cmd with
    | ok i => simp only [hd] at h; exact .inl ⟨cmd, i, rfl, hd, h⟩
    | error e => simp only [hd] at h; cases h; exact .inr (.inl ⟨cmd, e, rfl, hd, rfl⟩)

/-- Every command answers a next state (60_exceptions.md R200): that of `commandWith` at the reference
configuration. -/
theorem exec_eq_commandWith (i : Instr) (s : State) : exec i s = .next (commandWith refCfg i s) := by
  cases i <;> rfl

/-- A command's next state is the one `commandWith` gives. -/
theorem commandWith_of_exec {i : Instr} {s t : State} (h : exec i s = .next t) : t = commandWith refCfg i s := by
  rw [exec_eq_commandWith] at h; cases h; rfl

/-- A presented word steps to what `wordWith` gives. -/
theorem stepWord_eq_wordWith (cmd : CmdWord) (s : State) : stepWord cmd s = .next (wordWith refCfg cmd s) := by
  unfold stepWord wordWith
  cases decode cmd with
  | ok i => exact exec_eq_commandWith i s
  | error e => rfl

/-- The step is the step of 10_state.md R23 at the reference configuration. -/
theorem step_eq_stepWith (s : State) : step s = .next (stepWith refCfg s) := by
  unfold step stepWith commandStep
  cases nextInput s with
  | word cmd => exact stepWord_eq_wordWith cmd (acceptInput s)
  | rst => rfl

/-! ### The parts of PROCESS (49_cmd_process.md R190, R191, R193) -/

@[simp] theorem modeSwitch_targets (c : Config) (s : State) : (modeSwitch c s).targets = s.targets := by
  unfold modeSwitch; split <;> rfl
@[simp] theorem modeSwitch_setup (c : Config) (s : State) : (modeSwitch c s).setup = s.setup := by
  unfold modeSwitch; split <;> rfl
@[simp] theorem modeSwitch_inputs (c : Config) (s : State) : (modeSwitch c s).inputs = s.inputs := by
  unfold modeSwitch; split <;> rfl
@[simp] theorem modeSwitch_rsp (c : Config) (s : State) : (modeSwitch c s).rsp = s.rsp := by
  unfold modeSwitch; split <;> rfl
@[simp] theorem modeSwitch_mode (c : Config) (s : State) : (modeSwitch c s).active.mode = s.targets.modeT := by
  unfold modeSwitch; split
  · next h => exact h.symm
  · rfl
@[simp] theorem modeSwitch_frz (c : Config) (s : State) : (modeSwitch c s).active.frz = s.active.frz := by
  unfold modeSwitch; split <;> rfl

@[simp] theorem freezeToggle_targets (s : State) : (freezeToggle s).targets = s.targets := by
  unfold freezeToggle; split <;> rfl
@[simp] theorem freezeToggle_setup (s : State) : (freezeToggle s).setup = s.setup := by
  unfold freezeToggle; split <;> rfl
@[simp] theorem freezeToggle_sticky (s : State) : (freezeToggle s).sticky = s.sticky := by
  unfold freezeToggle; split <;> rfl
@[simp] theorem freezeToggle_smoothers (s : State) : (freezeToggle s).smoothers = s.smoothers := by
  unfold freezeToggle; split <;> rfl
@[simp] theorem freezeToggle_coeffs (s : State) : (freezeToggle s).coeffs = s.coeffs := by
  unfold freezeToggle; split <;> rfl
@[simp] theorem freezeToggle_modulation (s : State) : (freezeToggle s).modulation = s.modulation := by
  unfold freezeToggle; split <;> rfl
@[simp] theorem freezeToggle_dl (s : State) : (freezeToggle s).dl = s.dl := by
  unfold freezeToggle; split <;> rfl
@[simp] theorem freezeToggle_ap (s : State) : (freezeToggle s).ap = s.ap := by
  unfold freezeToggle; split <;> rfl
@[simp] theorem freezeToggle_inputs (s : State) : (freezeToggle s).inputs = s.inputs := by
  unfold freezeToggle; split <;> rfl
@[simp] theorem freezeToggle_mode (s : State) : (freezeToggle s).active.mode = s.active.mode := by
  unfold freezeToggle; split <;> rfl
@[simp] theorem freezeToggle_frz (s : State) : (freezeToggle s).active.frz = s.targets.frzT := by
  unfold freezeToggle; split
  · next h => exact h.symm
  · rfl

/-- CONTROLLATCH leaves the targets, the configuration registers and the inputs, and the active
controls follow their targets (R191). -/
theorem controlLatch_spec (c : Config) (s : State) :
    (controlLatch c s).targets = s.targets ∧ (controlLatch c s).setup = s.setup ∧
      (controlLatch c s).inputs = s.inputs ∧
      (controlLatch c s).active =
        { mode := s.targets.modeT, frz := s.targets.frzT, cpx := s.targets.cpxT } := by
  simp [controlLatch]

/-- Without a mode switch CONTROLLATCH leaves the lines, the smoothers, the coefficients, the phases and
the sticky bits (R191). -/
theorem controlLatch_same_mode (c : Config) {s : State} (h : s.targets.modeT = s.active.mode) :
    (controlLatch c s).dl = s.dl ∧ (controlLatch c s).ap = s.ap ∧ (controlLatch c s).smoothers = s.smoothers ∧
      (controlLatch c s).coeffs = s.coeffs ∧ (controlLatch c s).modulation = s.modulation ∧
      (controlLatch c s).sticky = s.sticky := by
  simp [controlLatch, modeSwitch, h]

/-- A mode switch clears the lines and snaps the smoothers (R191). -/
theorem controlLatch_mode_switch (c : Config) {s : State} (h : s.targets.modeT ≠ s.active.mode) :
    (controlLatch c s).dl = Vector.replicate 8 clearLine ∧
      (controlLatch c s).ap = Vector.replicate 2 (Vector.replicate 4 clearLine) ∧
      (controlLatch c s).smoothers = snapAll s.targets.pt ∧ (controlLatch c s).modulation = clearModulation c := by
  simp [controlLatch, modeSwitch, h]

/-- Steps P2 and P3 write the smoothers, the coefficients and `S_DCL` only (R190). -/
theorem smoothPhase_spec (c : Config) (s : State) :
    (smoothPhase c s).targets = s.targets ∧ (smoothPhase c s).setup = s.setup ∧ (smoothPhase c s).active = s.active ∧
      (smoothPhase c s).smoothers = smoothStep s.setup.ramp s.targets.pt s.smoothers ∧
      (smoothPhase c s).filters = s.filters ∧ (smoothPhase c s).modulation = s.modulation ∧
      (smoothPhase c s).dl = s.dl ∧ (smoothPhase c s).ap = s.ap ∧ (smoothPhase c s).inputs = s.inputs := by
  unfold smoothPhase; split <;> simp

/-- Step P3 recomputes the coefficients exactly when an owner moved (43_decay_filter.md R127). -/
theorem smoothPhase_coeffs (c : Config) (s : State) :
    (smoothPhase c s).coeffs =
      if smoothChanged s.setup.ramp s.targets.pt s.smoothers then
        coeffsOf c s.active.mode s.setup.fs s.setup.fsk (currents (smoothStep s.setup.ramp s.targets.pt s.smoothers))
      else s.coeffs := by
  unfold smoothPhase; split <;> simp_all

/-- Steps P4 to P7 leave the targets, the configuration registers, the active controls, the smoothers,
the coefficients and the inputs (R193). -/
theorem samplePhase_frame (c : Config) (left right : Operand) (s : State) :
    (samplePhase c left right s).targets = s.targets ∧ (samplePhase c left right s).setup = s.setup ∧
      (samplePhase c left right s).active = s.active ∧ (samplePhase c left right s).smoothers = s.smoothers ∧
      (samplePhase c left right s).coeffs = s.coeffs ∧ (samplePhase c left right s).inputs = s.inputs :=
  ⟨rfl, rfl, rfl, rfl, rfl, rfl⟩

/-! ### Runs -/

/-- A property that every step keeps holds after any number of steps. -/
theorem run_keeps {P : State → Prop} (hstep : ∀ s t, P s → step s = .next t → P t) :
    ∀ (n : Nat) (s t : State), P s → Sys2Proof.core.run n s = .next t → P t
  | 0, s, t, hs, h => by cases h; exact hs
  | n + 1, s, t, hs, h => by
    simp only [Host.Core.run] at h
    cases hst : Sys2Proof.core.step s with
    | next u => rw [hst] at h; exact run_keeps hstep n u t (hstep s u hs hst) h
    | fault r => rw [hst] at h; cases h
    | refused r => rw [hst] at h; cases h

end Sys2Proof.Machine
end

