-- ==== Sys2Proof/Laws/Process.lean ====
section
/-! SUPPORT. What PROCESS sees after its steps P1 to P3, in the words of the statements
(spec/49_cmd_process.md R190, R191). -/

namespace Sys2Proof.Machine

/-- The network lines after CONTROLLATCH (R191). -/
theorem controlLatch_dl (s : State) (i : Fin 8) : (controlLatch refCfg s).dl[i] = latchedDl s i := by
  by_cases h : s.targets.modeT = s.active.mode
  · rw [(controlLatch_same_mode refCfg h).1]; simp [latchedDl, h]
  · rw [(controlLatch_mode_switch refCfg h).1]; simp [latchedDl, h, clearLine]

/-- The lines of a diffuser chain after CONTROLLATCH (R191). -/
theorem controlLatch_ap (s : State) (ch : Fin 2) :
    (controlLatch refCfg s).ap[ch] = Vector.ofFn (latchedAp s ch) := by
  by_cases h : s.targets.modeT = s.active.mode
  · rw [(controlLatch_same_mode refCfg h).2.1]; ext; simp [latchedAp, h]
  · rw [(controlLatch_mode_switch refCfg h).2.1]; ext; simp [latchedAp, h, clearLine]

/-- The phases and the shift register after CONTROLLATCH (R191). -/
theorem controlLatch_modulation (s : State) : (controlLatch refCfg s).modulation = latchedModulation s := by
  by_cases h : s.targets.modeT = s.active.mode
  · rw [(controlLatch_same_mode refCfg h).2.2.2.2.1]; simp [latchedModulation, h]
  · rw [(controlLatch_mode_switch refCfg h).2.2.2]; simp [latchedModulation, h, clearModulation]; rfl

/-- A smoother after CONTROLLATCH (R191). -/
theorem controlLatch_smoother (s : State) (k : Fin 14) :
    (controlLatch refCfg s).smoothers[k] = latchedSmoother s k := by
  by_cases h : s.targets.modeT = s.active.mode
  · rw [(controlLatch_same_mode refCfg h).2.2.1]; simp [latchedSmoother, h]
  · rw [(controlLatch_mode_switch refCfg h).2.2.1]; simp [latchedSmoother, h, snapAll, snapped, fzero]

/-- The filter state of a slot after CONTROLLATCH (R191; 43_decay_filter.md R129). -/
theorem controlLatch_filter (s : State) (i : Fin 8) : (controlLatch refCfg s).filters[i] = latchedFilter s i := by
  simp only [controlLatch, freezeToggle, latchedFilter]
  by_cases h : s.targets.modeT = s.active.mode <;> by_cases h' : s.targets.frzT = s.active.frz <;>
    simp [modeSwitch, h, h', clearFilters, clearFilter, fzero, engineClear, snap, recompute]

/-- CONTROLLATCH sets `S_DCL` exactly when a mode switch clamps a nominal length (R191; 43_decay_filter.md
R125). -/
theorem controlLatch_dcl (s : State) :
    (controlLatch refCfg s).sticky.dcl = true ↔ s.sticky.dcl = true ∨ (s.targets.modeT ≠ s.active.mode ∧
      lengthClamped refCfg s.targets.modeT s.setup.fsk s.targets.pt[1] = true) := by
  by_cases h : s.targets.modeT = s.active.mode
  · rw [(controlLatch_same_mode refCfg h).2.2.2.2.2]; simp [h]
  · simp [controlLatch, modeSwitch, h, recompute, engineClear, snap, snapAll, currents, snapped]

/-- Step P2 moves parameter `k` exactly when `rewritesCurrent` says so (46_param_smoothing.md R161, R162). -/
theorem moving_iff_rewritesCurrent (s : State) (k : Fin 14) :
    moving (retargetAll s.setup.ramp s.targets.pt (controlLatch refCfg s).smoothers)[k] = true ↔
      rewritesCurrent s k := by
  have h := controlLatch_smoother s k
  simp only [retargetAll, Fin.getElem_fin, Vector.getElem_zipWith, moving, retarget, rewritesCurrent] at *
  rw [h]
  by_cases hne : fne s.targets.pt[k.1] (latchedSmoother s k).tgt = true <;> simp [hne]

/-- Step P3 recomputes exactly when an owner moved (46_param_smoothing.md R163). -/
theorem smoothChanged_iff_rewritesCurrent (s : State) :
    smoothChanged s.setup.ramp s.targets.pt (controlLatch refCfg s).smoothers = true ↔
      ∃ k ∈ coefOwners, rewritesCurrent s k := by
  simp only [smoothChanged, List.any_eq_true, moving_iff_rewritesCurrent]

/-- The register after `n` steps is the iterate of one (45_lfo_modulation.md R153). -/
theorem lfsrAfter_eq_iterate (c : Config) (n : Nat) (x : BitVec 32) : lfsrAfter c n x = (lfsrNext c)^[n] x := by
  induction n generalizing x with
  | zero => rfl
  | succ n ih => rw [lfsrAfter, ih, Function.iterate_succ_apply]

/-- A prepared PROCESS answers the sample phase of the latched and smoothed state (R190). -/
theorem exec_process_prepared (left right : Operand) {s : State} (h : s.setup.prepared = true) :
    exec (.process left right) s =
      .next (samplePhase refCfg left right (smoothPhase refCfg (controlLatch refCfg s))) := by
  rw [exec_eq_commandWith, commandWith, processWith, if_pos h]

end Sys2Proof.Machine
end

