-- ==== Sys2Proof/Tests/Slice0.lean ====
section
/-! SUPPORT. Small tests of the model against the spec's own examples, and for every statement with hypotheses
a witness that meets them. -/

namespace Sys2Proof.Tests

open Sys2Proof.Machine

set_option Elab.async false

/-- The state an outcome of the model goes on with. -/
def nextOf (o : Host.Outcome State Fault Refusal) (s : State) : State :=
  match o with
  | .next t => t
  | _ => s

/-- The reset state with `PREPARED` set. -/
def ready : State := { State.reset with setup := { State.reset.setup with prepared := true } }

/-- A state with one word presented. -/
def given (cmd : CmdWord) (s : State) : State := { s with inputs := [.word cmd] }

/-- `ready` with another mode asked for. -/
def switching : State := { ready with targets := { ready.targets with modeT := .hall } }

/-- `ready` with freeze asked for. -/
def freezing : State := { ready with targets := { ready.targets with frzT := true } }

/-- `ready` with DECAY half-way on a ramp from 2.0 s to 4.0 s, and a PROCESS presented. -/
def halfway : State :=
  given 0x030000000000000000000000
    { ready with
      targets := { ready.targets with pt := ready.targets.pt.set 0 0x40800000 }
      smoothers := ready.smoothers.set 0
        { cur := 0x40400000, tgt := 0x40800000, inc := fdiv 0x40000000 (i2f ready.setup.ramp.toNat), cnt := 480 } }

/-! ### WellFormed and Decode (30_encoding.md) -/

/-- R62: SETP's one condition, at its boundary. -/
theorem test_wellFormed_setp : Instr.wellFormed (.setp 13 0) = true ∧ Instr.wellFormed (.setp 14 0) = false := by
  decide

/-- R170's second example; R171's first. -/
theorem test_decode_nop : decode 0x0000000012345678DEADBEEF = .ok .nop := by decide
theorem test_decode_prepare : decode 0x01000000473B800000000200 = .ok (.prepare 0x473B8000 0x200) := by decide
theorem test_decode_reset : decode 0x020000000000000000000000 = .ok .reset := by decide
theorem test_decode_process : decode 0x030000003F80000000000000 = .ok (.process 0x3F800000 0) := by decide
theorem test_decode_rdstat : decode 0x040000000000000000000000 = .ok .rdstat := by decide
theorem test_decode_setp : decode 0x100A00007FC0000000000000 = .ok (.setp 10 0x7FC00000) := by decide
theorem test_decode_setmode : decode 0x11C800000000000000000000 = .ok (.setmode 200) := by decide
theorem test_decode_setfrz : decode 0x12FF00000000000000000000 = .ok (.setfrz 255) := by decide
theorem test_decode_setcpx : decode 0x130100000000000000000000 = .ok (.setcpx 1) := by decide

/-- Words built bit by bit from the pattern of R62: OPC, IDX, sixteen zeros, A, B. -/
theorem test_decode_bits :
    decode (0b00000011#8 ++ 0b00000000#8 ++ 0b0000000000000000#16 ++ 0b10111111100000000000000000000000#32 ++
      0b00000000000000000000000000000001#32) = .ok (.process 0xBF800000 1) ∧
    decode (0b00010000#8 ++ 0b00001101#8 ++ 0b0000000000000000#16 ++ 0b11000001100100000000000000000000#32 ++ 0#32) =
      .ok (.setp 13 0xC1900000) ∧
    decode (0b00000001#8 ++ 0b00000000#8 ++ 0b0000000000000000#16 ++ 0b01000101111110100000000000000000#32 ++
      0b10000000000000000000000000000000#32) = .ok (.prepare 0x45FA0000 0x80000000) ∧
    decode (0b00010010#8 ++ 0b00000001#8 ++ 0#80) = .ok (.setfrz 1) := by decide

/-- R64: each of the four reasons, by name; R180: `SETP 14, 1.0` is illegal. -/
theorem test_decode_refuses :
    decode 0x000000010000000000000000 = .error .reservedBits ∧ decode 0x040100000000000000000000 = .error .indexNotZero ∧
      decode 0x100E00003F80000000000000 = .error .noSuchParameter ∧
      decode 0x050000000000000000000000 = .error .unassignedOpcode ∧
      decode 0xFF0000000000000000000000 = .error .unassignedOpcode := by decide

/-- R171, R180: the spec's words for the commands. -/
theorem test_encode :
    encode (.prepare 0x473B8000 512) = 0x01000000473B800000000200 ∧
      encode (.setp 0 0x40800000) = 0x100000004080000000000000 ∧ encode (.setmode 2) = 0x110200000000000000000000 := by
  decide

/-- The table's numbering: bit 0 least significant, bits above `nbits` zero. -/
theorem test_decodeTableWord :
    decodeTableWord 96 0x030000003F80000000000000 = some (.process 0x3F800000 0) ∧
      decodeTableWord 96 0x050000000000000000000000 = none := by decide

/-! ### Numerics (95_test_vectors.md V-NUM) -/

theorem test_add_rounds_to_even :
    fadd 0x3F800000 0x33800000 = 0x3F800000 ∧ fadd 0x3F800000 0x33C00000 = 0x3F800001 ∧
      fadd 0x3F800000 0x34400000 = 0x3F800002 := by decide +kernel
theorem test_divide : fdiv 0x3F800000 0x40400000 = 0x3EAAAAAB ∧ fdiv 0x43C28000 0x473B8000 = 0x3C04C757 := by
  decide +kernel
theorem test_flush :
    fmul 0x00800000 0x3F000000 = 0x00000000 ∧ fmul 0x00FFFFFF 0x3F000000 = 0x00800000 ∧
      fsub 0x00800001 0x00800000 = 0x00000000 ∧ fadd 0x00000001 0x3F800000 = 0x3F800000 := by decide +kernel
theorem test_overflow : fmul 0x7F7FFFFF 0x40000000 = 0x7F800000 := by decide +kernel
theorem test_iround : iround 0x40200000 = 3 ∧ iround 0x401FFFFF = 2 ∧ iround 0x3EFFFFFF = 1 := by decide +kernel
theorem test_pow10 : refPow10 0xBF000000 = 0x3EA1E89B ∧ refPow10 0xC0400000 = 0x3A83126F ∧ refPow10 0xC2180000 = 0 := by
  decide +kernel
theorem test_fexp : refFexp 0xBF800000 = 0x3EBC5AB2 ∧ refFexp 0xC17CCCCD = 0x3413962C := by decide +kernel
theorem test_sine : refSin2pi 0x3CAAAAAB = 0x3E05A8A9 ∧ refCos2pi 0x3EE66666 = 0xBF737870 := by decide +kernel

/-! ### Components, each from its rule's example -/

/-- 41_delay_line.md R101: `head = 15` wraps to 0. -/
theorem test_line_write_wraps :
    lineWrite 16 (⟨[], 15⟩ : Line 4) 0x3F800000 = ⟨[(15, 0x3F800000)], 0⟩ := by decide
/-- R102: with `head = 3`, `read(5)` is `buf[14]` and `read(40)` is `buf[4]`. -/
theorem test_line_read_index : readIndex 16 (⟨[], 3⟩ : Line 4) 5 = 14 ∧ readIndex 16 (⟨[], 3⟩ : Line 4) 40 = 4 := by
  decide
/-- R103: `readInterp(2.5)` between 1.0 and 2.0. -/
theorem test_read_interp :
    lineReadInterp 16 (⟨[(13, 0x40000000), (14, 0x3F800000)], 0⟩ : Line 4) 0x40200000 = 0x3FC00000 := by decide +kernel
/-- 42_allpass_diffuser.md R111: `g = 0.5`, `x = 1.0`, `delayed = 0.25`. -/
theorem test_allpass_stage :
    stageOut 0x3F800000 0x3E800000 = 0xBF400000 ∧ stageWord 0x3F000000 0x3F800000 0x3E800000 = 0x3F900000 := by
  decide +kernel
/-- 45_lfo_modulation.md R153: the first three steps and `nz[0]`. -/
theorem test_lfsr :
    lfsrAfter refCfg 1 0xACE1ACE1 = 0xD650D673 ∧ lfsrAfter refCfg 3 0xACE1ACE1 = 0x7584359D ∧
      lfsrAfter refCfg 8 0xACE1ACE1 = 0xFB9221AE ∧ ditherValue 0xD650D673 = 0xBEA6C000 := by decide +kernel
/-- R151: the first increment of `PHA[0]`. -/
theorem test_phase : phaseNext 0x3F99999A 0x3F800000 0x473B8000 0 = 0x37D1B718 := by decide +kernel
/-- 46_param_smoothing.md R161, R162: `RAMP = 4`, from 2.0 to 4.0. -/
theorem test_ramp :
    let m := retarget 4 0x40800000 (snapped 0x40000000)
    m.inc = 0x3F000000 ∧ (advance m).cur = 0x40200000 ∧ (advance^[3] m).cur = 0x40600000 ∧
      advance^[4] m = { cur := 0x40800000, tgt := 0x40800000, inc := 0x3F000000, cnt := 0 } := by decide +kernel
/-- 44_fdn_core.md R138: the unit vector and the vector of ones. -/
theorem test_hadamard :
    hadamard refCfg #v[0x3F800000, 0, 0, 0, 0, 0, 0, 0] = Vector.replicate 8 0x3EB504F3 ∧
      hadamard refCfg (Vector.replicate 8 0x3F800000) = #v[0x403504F3, 0, 0, 0, 0, 0, 0, 0] := by decide +kernel
/-- R139: `i = 2`, `m = 0.25`, `uL = 1.0`, `uR = 0.5`. -/
theorem test_inject : inject refCfg false 2 0x3E800000 0x3F800000 0x3F000000 = 0xBF400000 := by decide +kernel
/-- R140: 2.5 clamps, `-0.0` does not. -/
theorem test_feedback_clamp :
    feedbackClamp refCfg 0x40200000 = 0x40000000 ∧ feedbackClamp refCfg 0x80000000 = 0x80000000 := by decide +kernel
/-- R141: `r = (1, ..., 8)`. -/
theorem test_taps :
    let r : Vector F32 8 := #v[0x3F800000, 0x40000000, 0x40400000, 0x40800000, 0x40A00000, 0x40C00000, 0x40E00000,
      0x41000000]
    fmul 0x3F000000 (tapSum refCfg.outL r) = 0xC0000000 ∧ fmul 0x3F000000 (tapSum refCfg.outR r) = 0xC0000000 := by
  decide +kernel
/-- 43_decay_filter.md R126: the bands and gains of the example. -/
theorem test_bands :
    let k : Coeffs := { State.reset.coeffs with
      clo := 0x3F000000, chi := 0x3F800000, gl := Vector.replicate 8 0x3F000000, gm := Vector.replicate 8 0x3E800000
      gh := Vector.replicate 8 0x3E000000, b0 := 0x3F800000, b1 := 0, b2 := 0, a1 := 0, a2 := 0 }
    decay k 0 clearFilter 0x3F800000 =
      { out := 0x3EC00000, filter := { lp1 := 0x3F000000, lp2 := 0x3F800000, z1 := 0, z2 := 0 } } := by decide +kernel
/-- 47_cmd_lifecycle.md R175 at 44100 Hz. -/
theorem test_deriveFs :
    let u := deriveFs refCfg true 0x472C4400 1
    u.fsk = 0x3F6B3333 ∧ u.fsm = 0x42306666 ∧ u.ramp = 882 ∧ u.aplen[0] = #v[210, 159, 563, 413] := by decide +kernel
/-- 43_decay_filter.md R125: coefficients after RST. -/
theorem test_reset_coeffs :
    State.reset.coeffs.len[0] = 0x43C28000 ∧ State.reset.coeffs.gl[0] = 0x3F78EF08 ∧
      State.reset.coeffs.clo = 0x3D03DF30 ∧ State.reset.coeffs.b0 = 0x3F800000 := by decide +kernel

/-! ### Commands, one step each -/

/-- R170: NOP, and an idle port, leave the status. -/
theorem test_step_nop : (nextOf (step (given 0 State.reset)) ready).setup.prepared = false := by decide +kernel
/-- R171: `PREPARE 48000.0, 512` gives `STATUS = 1`. -/
theorem test_step_prepare :
    let t := nextOf (step (given 0x01000000473B800000000200 State.reset)) State.reset
    statusWord t = 0x00000001 ∧ t.setup.maxblk = 512 ∧ t.setup.ramp = 960 := by decide +kernel
/-- R171: `PREPARE 0.0, 512` gives `STATUS = 0x1000`. -/
theorem test_step_prepare_refused :
    statusWord (nextOf (step (given 0x010000000000000000000200 State.reset)) ready) = 0x00001000 := by decide +kernel
/-- R172: RESET latches the mode target and keeps `PREPARED`. -/
theorem test_step_reset :
    let t := nextOf (step (given 0x020000000000000000000000 switching)) State.reset
    t.active.mode = .hall ∧ t.setup.prepared = true ∧ t.coeffs.len[0] = 0x4471C000 := by decide +kernel
/-- R190: the impulse of program P1 writes 1.0, -1.0, 1.0, -1.0 into the even lines. -/
theorem test_step_process :
    let t := nextOf (step (given 0x030000003F80000000000000 ready)) State.reset
    t.rsp = some (.audio 0) ∧ t.dl[0] = ⟨[(0, 0x3F800000)], 1⟩ ∧ t.dl[2] = ⟨[(0, 0xBF800000)], 1⟩ ∧
      t.dl[1] = ⟨[], 1⟩ := by decide +kernel
/-- R192: 3.0 clamps to 2.0 and NaN to zero, with `S_ICL`. -/
theorem test_step_process_sanitises :
    let t := nextOf (step (given 0x03000000404000007FC00000 ready)) State.reset
    t.sticky.icl = true ∧ t.dl[0].buf = [(0, 0x40000000)] ∧ t.dl[1].buf = [] := by decide +kernel
/-- R173: HALL active, frozen, prepared, ramping, `S_ICL`. -/
theorem test_step_rdstat :
    (nextOf (step (given 0x040000000000000000000000
      { ready with
        active := { mode := .hall, frz := true, cpx := false }
        sticky := { ready.sticky with icl := true }
        smoothers := ready.smoothers.set 3 { ready.smoothers[3] with cnt := 1 } })) ready).rsp =
      some (.status 0x0000022B) := by decide +kernel
/-- R180: 100.0 clamps to 30.0 with `S_PCL`; a NaN is dropped with it. -/
theorem test_step_setp :
    let t := nextOf (step (given 0x1000000042C8000000000000 State.reset)) State.reset
    t.targets.pt[0] = 0x41F00000 ∧ t.sticky.pcl = true := by decide +kernel
theorem test_step_setp_nan :
    let t := nextOf (step (given 0x100A00007FC0000000000000 State.reset)) State.reset
    t.targets.pt[10] = 0x3F333333 ∧ t.sticky.pcl = true := by decide +kernel
/-- R181: HALL's preset. -/
theorem test_step_setmode :
    let t := nextOf (step (given 0x110200000000000000000000 State.reset)) State.reset
    t.targets.modeT = .hall ∧ t.targets.pt[6] = 0x43960000 ∧ t.targets.pt[9] = 0x3ECCCCCD ∧
      t.targets.pt[10] = 0x3F266666 ∧ t.sticky.pcl = false := by decide +kernel
/-- R181: `SETMODE 200` is `SETMODE 9` with `S_PCL`. -/
theorem test_step_setmode_clamps :
    let t := nextOf (step (given 0x11C800000000000000000000 State.reset)) State.reset
    t.targets.modeT = .dirtyHall ∧ t.sticky.pcl = true := by decide +kernel
/-- R182, R183. -/
theorem test_step_setfrz :
    (nextOf (step (given 0x12FF00000000000000000000 State.reset)) State.reset).targets.frzT = true ∧
      (nextOf (step (given 0x120000000000000000000000 freezing)) State.reset).targets.frzT = false := by decide +kernel
theorem test_step_setcpx :
    (nextOf (step (given 0x130100000000000000000000 State.reset)) State.reset).targets.cpxT = true := by decide +kernel
/-- R64: an illegal word sets `S_ILL` alone. -/
theorem test_step_illegal :
    statusWord (nextOf (step (given 0x000000010000000000000000 State.reset)) State.reset) = 0x00002000 := by
  decide +kernel
/-- Log entry 11: a SETP term with no legal word sets `S_ILL`. -/
theorem test_setp_without_parameter :
    statusWord (nextOf (exec (.setp 14 0x3F800000) State.reset) State.reset) = 0x00002000 := by decide +kernel
/-- 10_state.md R23: the step under `TESTCFG` (95_test_vectors.md), whose PREPARE at 48000 Hz gives `RAMP = 4`, the
stage lengths 2, 3, 5, 7 and the first network length 3. -/
def testCfg : Config :=
  { refCfg with
    capDl := 64
    capAp := 16
    smoothTime := 0x38AEC33E
    base48 := (Vector.ofFn fun m : Fin 10 => Vector.ofFn fun i : Fin 8 => 2 + m.val + 2 * i.val).set 0
      #v[3, 5, 7, 11, 13, 17, 19, 23]
    ap48 := #v[#v[2, 3, 5, 7], #v[2, 3, 5, 7]] }
theorem test_commandStep_testCfg :
    let p := commandStep testCfg (State.resetWith testCfg) 0x01000000473B800000000010
    p.2 = none ∧ p.1.setup.ramp = 4 ∧ p.1.setup.aplen[1] = #v[2, 3, 5, 7] ∧ p.1.coeffs.len[0] = 0x40400000 ∧
      (commandStep testCfg p.1 0x040000000000000000000000).2 = some (.status 1) := by decide +kernel
/-- P2 of 95_test_vectors.md, n = 3, under `TESTCFG`: slot 0 returns 1.0, so `RSP64 = 0x3F00000000000000`. -/
theorem test_stepWith_rsp64 :
    let s := { State.resetWith testCfg with
      setup := deriveFs testCfg true 0x473B8000 16
      smoothers := (testCfg.pdef.set 9 0).map snapped
      targets := { (State.resetWith testCfg).targets with pt := testCfg.pdef.set 9 0 }
      dl := (Vector.replicate 8 ⟨[], 3⟩).set 0 ⟨[(0, 0x3F800000)], 3⟩ }
    (stepWith testCfg (given 0x030000000000000000000000 s)).rsp = some (.audio 0x3F00000000000000) := by decide +kernel
/-- 00_scope.md R6: `RT60_MIN` and `RT60_MAX` are the range of DECAY. -/
theorem test_rt60 : refCfg.pmin[0] = refCfg.rt60Min ∧ refCfg.pmax[0] = refCfg.rt60Max := by decide
/-- `withFetchWord` makes the next step run the table's word. -/
theorem test_withFetchWord :
    (nextOf (step (State.reset.withFetchWord 96 0x120100000000000000000000)) State.reset).targets.frzT = true := by
  decide +kernel

/-! ### Witnesses: for each statement with hypotheses, what meets them

The states are `State.reset` with a few fields changed; each clause of a statement has its own. -/

/-- The step of a presented command is the state `after` gives. -/
theorem step_given {cmd : CmdWord} {i : Instr} (s u : State) (h : decode cmd = .ok i) :
    step (given cmd s) = .next (nextOf (step (given cmd s)) u) := by
  have hs : step (given cmd s) = .next (commandWith refCfg i (acceptInput (given cmd s))) := by
    simp only [step, nextInput, given, List.headD_cons, stepWord, h, exec_eq_commandWith]
  rw [hs]; rfl

/-- `ready` with `n` silent PROCESS words presented. -/
def silentRun (n : Nat) (s : State) : State :=
  { s with inputs := List.replicate n (.word (encode (.process 0 0))) }

/-- EncodeDecodeRoundTrip: the greatest index SETP admits. -/
theorem witness_EncodeDecodeRoundTrip : Instr.wellFormed (.setp 13 0xFFFFFFFF) = true := by decide

/-- ReencodingKeepsUsedBits: a word with ignored bits set. -/
theorem witness_ReencodingKeepsUsedBits : decode 0x1101000000000000DEADBEEF = .ok (.setmode 1) := by decide

/-- DecodeSelectsTableRow: a word that selects the SETP row at its last index, and one that selects none. -/
theorem witness_DecodeSelectsTableRow :
    selectsRow 0x100D00000000000000000000 opcodeMap[5] ∧ ∀ r : Fin 9, ¬selectsRow 0x100E00000000000000000000 opcodeMap[r] := by
  unfold selectsRow; decide

/-- IllegalWordsSetOnlySill: one word for each reason, at the boundary of its field. -/
theorem witness_IllegalWordsSetOnlySill :
    illegalFields 0x000000010000000000000000 ∧ illegalFields 0x050000000000000000000000 ∧
      illegalFields 0x0F0000000000000000000000 ∧ illegalFields 0x140000000000000000000000 ∧
      illegalFields 0x040100000000000000000000 ∧ illegalFields 0x100E00000000000000000000 ∧
      ¬illegalFields 0x100D00000000000000000000 ∧
      (given 0x050000000000000000000000 State.reset).inputs = .word 0x050000000000000000000000 :: [] := by
  refine ⟨?_, ?_, ?_, ?_, ?_, ?_, ?_, rfl⟩ <;> (unfold illegalFields; decide)

/-- StepRunsDecodedCommand. -/
theorem witness_StepRunsDecodedCommand :
    (given 0x040000000000000000000000 State.reset).inputs = .word 0x040000000000000000000000 :: [] ∧
      decode 0x040000000000000000000000 = .ok .rdstat := ⟨rfl, by decide⟩

/-- RstRestoresResetState. -/
theorem witness_RstRestoresResetState : ({ ready with inputs := [.rst] } : State).inputs = .rst :: [] := rfl

/-- NopChangesNothing: the two ways to an illegal NOP, and an idle port. -/
theorem witness_NopChangesNothing :
    ((1 : Idx) ≠ 0 ∨ (0 : BitVec 16) ≠ 0) ∧ ((0 : Idx) ≠ 0 ∨ (1 : BitVec 16) ≠ 0) ∧ State.reset.inputs = [] :=
  ⟨by decide, by decide, rfl⟩

/-- PrepareFollowsItsRule, refused: NaN, both zeros, a subnormal, minus infinity, block sizes 0 and -1. -/
theorem witness_PrepareFollowsItsRule_refused :
    ([(0x7FC00000#32, 1#32), (0x00000000#32, 1#32), (0x80000000#32, 1#32), (0x007FFFFF#32, 1#32),
      (0xFF800000#32, 1#32), (0x473B8000#32, 0#32), (0x473B8000#32, 0xFFFFFFFF#32)].all fun p =>
      decide (isNaN (daz p.1) = true ∨ fle (daz p.1) 0x00000000#32 = true ∨ p.2.toInt < 1)) = true := by decide +kernel

/-- PrepareFollowsItsRule, accepted: below, at and above each limit, and infinity. -/
theorem witness_PrepareFollowsItsRule_accepted :
    ([0x00800000#32, 0x45F9FFFF#32, 0x45FA0000#32, 0x473B8000#32, 0x483B8000#32, 0x483B8001#32, 0x7F800000#32].all
      fun v => decide ¬(isNaN (daz v) = true ∨ fle (daz v) 0x00000000#32 = true ∨ (1#32).toInt < 1)) = true := by
  decide +kernel

/-- PrepareAndResetForgetHistory: two states that differ, for each of its clauses. -/
theorem witness_PrepareAndResetForgetHistory :
    let prep := 0x01000000473B800000000200
    let other : State := { freezing with targets := ready.targets, setup := { ready.setup with prepared := false, maxblk := 7 } }
    (given prep ready).targets = (given prep other).targets ∧ (given prep ready).inputs = (given prep other).inputs ∧
      presentedCommand (given prep ready) = some (.prepare 0x473B8000 0x200) ∧
      prepareRefused 0x473B8000 0x200 = false ∧ presentedCommand (given 0x020000000000000000000000 ready) = some .reset ∧
      other.setup = { ready.setup with prepared := other.setup.prepared, maxblk := other.setup.maxblk } := by
  decide +kernel

/-- SetpStoresClampedValue: a NaN; values below, at and above the limits of DECAY; the first illegal index. -/
theorem witness_SetpStoresClampedValue :
    isNaN (daz 0x7FC00000) = true ∧
      ([0x3DCCCCCC#32, 0x3DCCCCCD#32, 0x41F00000#32, 0x41F00001#32, 0x80000000#32, 0xFF800000#32].all fun v =>
        decide ¬isNaN (daz v) = true) = true ∧ 14 ≤ (14 : Idx).toNat := by decide +kernel

/-- TargetsAndSetupHaveTheirWriters: a step that changes a target, one that changes a configuration register. -/
theorem witness_TargetsAndSetupHaveTheirWriters :
    let s := given 0x120100000000000000000000 State.reset
    let u := given 0x010000000000000000000000 ready
    step s = .next (nextOf (step s) s) ∧ (nextOf (step s) s).targets ≠ s.targets ∧
      presentedCommand s = some (.setfrz 1) ∧ step u = .next (nextOf (step u) u) ∧
      (nextOf (step u) u).setup ≠ u.setup :=
  ⟨step_given (i := .setfrz 1) _ _ (by decide), by decide +kernel, by decide,
    step_given (i := .prepare 0 0) _ _ (by decide), by decide +kernel⟩

/-- UnpreparedProcessIsSilent, DelayMemoryIsUnobservableUntilCleared. -/
theorem witness_unprepared : State.reset.setup.prepared = false := by decide +kernel

/-- ProcessFrame, ProcessAdvancesControlState, InputIsSanitised: prepared, with and without a mode switch. -/
theorem witness_prepared :
    ready.setup.prepared = true ∧ ready.targets.modeT = ready.active.mode ∧ switching.setup.prepared = true ∧
      switching.targets.modeT ≠ switching.active.mode := by decide +kernel

/-- ProcessAdvancesControlState: every owner idle on its target; an owner with a new target; an owner ramping. -/
theorem witness_ProcessAdvancesControlState :
    (∀ k ∈ coefOwners, ¬rewritesCurrent ready k) ∧
      (let s := writeTarget 1 0x40000000 ready
       ∃ k ∈ coefOwners, rewritesCurrent s k) ∧
      (let s : State := { ready with smoothers := ready.smoothers.set 13 { ready.smoothers[13] with cnt := 1 } }
       ∃ k ∈ coefOwners, rewritesCurrent s k) := by
  unfold rewritesCurrent; decide +kernel

/-- ProcessRunsTheNetworkStep, StepKeepsCanonicalMemories. -/
theorem witness_MemoriesCanonical : MemoriesCanonical ready ∧ ready.setup.prepared = true := by decide +kernel

/-- FrozenNetworkIgnoresInput: freeze asked for, and freeze already active. -/
theorem witness_FrozenNetworkIgnoresInput :
    freezing.setup.prepared = true ∧ freezing.targets.frzT = true ∧ ¬freezing.active.frz = true ∧
      ({ freezing with active := { freezing.active with frz := true } } : State).targets.modeT = freezing.active.mode := by
  decide +kernel

/-- ModeSwitchIsSilent. -/
theorem witness_ModeSwitchIsSilent :
    switching.setup.prepared = true ∧ switching.targets.modeT ≠ switching.active.mode ∧ TargetsLegal switching := by
  decide +kernel

/-- StickyBitsFollowTheirTable: a step that is not RST and sets a bit, and one that clears a bit. -/
theorem witness_StickyBitsFollowTheirTable :
    let s := given 0x010000000000000000000200 State.reset
    let u := given 0x01000000473B800000000200 { State.reset with sticky := flagIll noSticky }
    step s = .next (nextOf (step s) s) ∧ nextInput s ≠ .rst ∧ (nextOf (step s) s).sticky.pfail = true ∧
      s.sticky.pfail = false ∧ step u = .next (nextOf (step u) u) ∧ nextInput u ≠ .rst ∧
      (nextOf (step u) u).sticky.ill = false :=
  ⟨step_given (i := .prepare 0 512) _ _ (by decide), by decide, by decide +kernel, by decide +kernel,
    step_given (i := .prepare 0x473B8000 512) _ _ (by decide), by decide, by decide +kernel⟩

/-- SilentProcessStaysSilent: inputs `+0.0`, `-0.0` and a subnormal, silent states at rest, on a ramp, and with a
mode and a freeze change pending; and the coefficients after a PROCESS. -/
theorem witness_SilentProcessStaysSilent :
    isZero (daz 0) = true ∧ isZero (daz 0x80000000) = true ∧ isZero (daz 0x807FFFFF) = true ∧
      ([ready, halfway, switching, freezing].all fun s => decide (s.setup.prepared = true ∧ LinesSilent s ∧
        FiltersSilent s ∧ TargetsLegal s ∧ SetupDerived s ∧ SmoothersWellFormed s)) = true ∧ CoeffsCurrent ready ∧
      CoeffsFinite (nextOf (exec (.process 0 0) ready) ready) := by decide +kernel

/-- SilentProcessStaysSilent: `ready` has the hypothesis on ramps, with no ramp running. -/
theorem witness_SilentProcessStaysSilent_ramps : RampsLegal ready := by
  have h : ∀ k : Fin 14, legalParam k ready.smoothers[k].tgt = true ∧ legalParam k ready.smoothers[k].cur = true ∧
      ready.smoothers[k].cnt = 0 := by decide +kernel
  exact fun k => ⟨(h k).1, (h k).2.1, fun moving => absurd (h k).2.2 moving⟩

/-- SilenceAfterPrepareOrReset: each first command. -/
theorem witness_SilenceAfterPrepareOrReset :
    TargetsLegal ready ∧ prepareRefused 0x473B8000 512 = false ∧ ready.setup.prepared = true ∧
      ({ ready with inputs := .word (encode .reset) :: List.replicate 1 (.word (encode (.process 0 0))) } : State).inputs =
        .word (encode .reset) :: List.replicate (0 + 1) (.word (encode (.process 0 0))) := by decide +kernel

/-- StepKeepsCanonicalMemories, StepKeepsTargetsLegal, StepKeepsSetupDerived, StepKeepsSmoothersWellFormed,
StepKeepsCoeffsCurrent, StepKeepsNetworkWordsBounded, StepKeepsNoSubnormals, StepKeepsHeadsInStep,
LfsrIsInvertibleAndNeverZero: a good state that a PROCESS takes to a next state. -/
theorem witness_invariants :
    Good (given 0x030000000000000000000000 ready) ∧
      step (given 0x030000000000000000000000 ready) =
        .next (nextOf (step (given 0x030000000000000000000000 ready)) ready) :=
  ⟨by decide +kernel, step_given (i := .process 0 0) _ _ (by decide)⟩

/-- Every current value and ramp target of `halfway` is legal, and its one ramp started at 2.0 s. -/
theorem halfway_ramps :
    (∀ k : Fin 14, legalParam k halfway.smoothers[k].tgt = true ∧ legalParam k halfway.smoothers[k].cur = true) ∧
      (∀ k : Fin 14, k ≠ 0 → halfway.smoothers[k].cnt = 0) ∧ legalParam 0 0x40000000 = true ∧
      halfway.smoothers[0].inc = fdiv (fsub halfway.smoothers[0].tgt 0x40000000) (i2f halfway.setup.ramp.toNat) := by
  decide +kernel

/-- StepKeepsCurrentValuesLegal, StepKeepsPhasesInUnit: `halfway` meets all their hypotheses. -/
theorem witness_RampsLegal :
    TargetsLegal halfway ∧ SetupDerived halfway ∧ SmoothersWellFormed halfway ∧ RampsLegal halfway ∧
      PhasesInUnit halfway ∧ halfway.smoothers[0].cnt ≠ 0 ∧ step halfway = .next (nextOf (step halfway) ready) := by
  refine ⟨by decide +kernel, by decide +kernel, by decide +kernel, ?_, by decide +kernel, by decide +kernel,
    step_given (i := .process 0 0) _ _ (by decide)⟩
  obtain ⟨legal, idle, start, line⟩ := halfway_ramps
  intro k
  refine ⟨(legal k).1, (legal k).2, fun moving => ⟨0x40000000, ?_⟩⟩
  by_cases hk : k = 0
  · subst hk; exact ⟨start, line⟩
  · exact absurd (idle k hk) moving

/-- ResponseIsBounded: a network word at the limit. -/
theorem witness_ResponseIsBounded :
    FdnWordsBounded { ready with dl := ready.dl.set 0 ⟨[(0, 0xC0000000)], 1⟩ } := by decide +kernel

/-- RampsFinishOnTheirTargets: 960 PROCESS words at 48 kHz, with a target to reach. -/
theorem witness_RampsFinishOnTheirTargets :
    let s := silentRun 960 (writeTarget 0 0x40800000 ready)
    s.setup.prepared = true ∧ TargetsLegal s ∧ SetupDerived s ∧ SmoothersWellFormed s ∧ s.setup.ramp.toNat ≤ 960 ∧
      960 ≤ s.inputs.length ∧ ∀ x ∈ s.inputs, ∃ left right, x = .word (encode (.process left right)) := by
  refine ⟨by decide +kernel, by decide +kernel, by decide +kernel, by decide +kernel, by decide +kernel,
    by decide +kernel, ?_⟩
  intro x hx
  exact ⟨0, 0, (List.mem_replicate.mp hx).2⟩

/-- DelayLineReturnsItsHistory: the least and the greatest delay of a line of the network. -/
theorem witness_DelayLineReturnsItsHistory : 32768 ≤ 2 ^ 15 ∧ 1 ≤ 1 ∧ 1 < 32768 ∧ 1 ≤ 32767 ∧ 32767 < 32768 := by decide

/-- LineOperationsStayInTheLine: a line about to wrap, and delays on both sides of its clamp. -/
theorem witness_LineOperationsStayInTheLine :
    let l : Line 4 := ⟨[(3, 0x3F800000)], 15⟩
    0 < 16 ∧ 16 ≤ 2 ^ 4 ∧ l.head.toNat < 16 ∧ Memory.wf 16 l.buf = true ∧ lineRead 16 l 12 = 0x3F800000 ∧
      lineRead 16 l (-1) = lineRead 16 l 0 ∧ lineRead 16 l 16 = lineRead 16 l 15 := by decide

/-- OutputTapsSumFourReads: reads at both limits. -/
theorem witness_OutputTapsSumFourReads :
    ∀ i : Fin 8, within 0xC0800000 0x40800000
      (#v[0xC0800000, 0x40800000, 0x80000000, 0, 0x00000001, 0x3F800000, 0xC0000000, 0x40000000] : Vector F32 8)[i] = true := by
  decide +kernel

/-- ModulatorsStayInUnit: the limits. -/
theorem witness_ModulatorsStayInUnit :
    within 0xBF800000 0x3F800000 0xBF800000 = true ∧ within 0xBF800000 0x3F800000 0x3F800000 = true ∧
      within 0xBF800000 0x3F800000 0x80000000 = true := by decide +kernel

/-- ArithmeticRoundsExactResults: finite operands with sums, products and quotients that are zero and not. -/
theorem witness_ArithmeticRoundsExactResults :
    isFinite 0x7F7FFFFF = true ∧ isFinite 0x807FFFFF = true ∧ isFinite 0x3F800000 = true ∧
      valueOf (daz 0x3F800000) + valueOf (daz 0xBF800000) = 0 ∧ valueOf (daz 0x3F800000) ≠ 0 ∧
      valueOf (daz 0x807FFFFF) = 0 := by decide +kernel

/-- ArithmeticSpecialCases: a number of each kind. -/
theorem witness_ArithmeticSpecialCases :
    isNaN 0x7F800001 = true ∧ isInf 0x7F800000 = true ∧ isInf 0xFF800000 = true ∧ isFinite 0x7F7FFFFF = true ∧
      isZero (daz 0x00000001) = true ∧ ¬isZero (daz 0x00800000) = true := by decide +kernel

/-- ComparisonsAgreeWithValues. -/
theorem witness_ComparisonsAgreeWithValues :
    isFinite 0x80000000 = true ∧ isInf 0xFF800000 = true ∧ isNaN 0xFFFFFFFF = true ∧ isNaN 0x7F800000 = false := by
  decide +kernel

/-- IntegerConversionsAreExact: the greatest integer, and the least and a great fractional request. -/
theorem witness_IntegerConversionsAreExact :
    |(-16777216 : Int)| ≤ 2 ^ 24 ∧ isFinite 0x7F7FFFFF = true ∧ fle 0x00000000 0x7F7FFFFF = true ∧
      ([0x80000000#32, 0x00800000#32, 0x3F7FFFFF#32, 0x4B7FFFFF#32].all fun d =>
        decide (fle 0x00000000 d = true ∧ flt d 0x4B800000 = true ∧ isSubnormal d = false)) = true := by decide +kernel

/-- NominalLengthsNeverClamp: both limits of the rate and of the room size. -/
theorem witness_NominalLengthsNeverClamp :
    within 0x45FA0000 0x483B8000 0x45FA0000 = true ∧ within 0x45FA0000 0x483B8000 0x483B8000 = true ∧
      legalParam 1 0x3E800000 = true ∧ legalParam 1 0x40000000 = true := by decide +kernel

/-- FlatPeakingIsIdentity: the default section, at both zeros of the gain, and its filter at rest. -/
theorem witness_FlatPeakingIsIdentity :
    isZero 0x00000000 = true ∧ isZero 0x80000000 = true ∧ refCfg.num.pow10 0x00000000 = 0x3F800000 ∧
      refCfg.num.pow10 0x80000000 = 0x3F800000 ∧
      (let alpha := fdiv (refCfg.num.sin2pi (fmin (fdiv 0x447A0000 0x473B8000) refCfg.tMax)) (fmul 0x40000000 0x3F800000)
       isFinite alpha = true ∧ fle 0x00000000 alpha = true ∧ isFinite (fadd 0x3F800000 alpha) = true) ∧
      (let k := State.reset.coeffs
       k.b0 = 0x3F800000 ∧ k.b1 = k.a1 ∧ k.b2 = k.a2 ∧
        let v := bandSum k 0 (onePole k.clo 0 0x3F800000) (onePole k.chi 0 0x3F800000) 0x3F800000
        isFinite v = true ∧ isFinite (fmul k.b1 v) = true ∧ isFinite (fmul k.b2 v) = true) := by decide +kernel

end Sys2Proof.Tests
end

/-! What a step does to the target and configuration registers (spec/10_state.md R11, R14). As in the tests, the
declarations are elaborated one after another, which keeps the number of threads, and so the memory, small. -/

namespace Sys2Proof.Machine

set_option Elab.async false

/-! ### What a step can do, in the words of the statements -/

/-- The decoder answers well-formed commands only (30_encoding.md R62). -/
theorem decode_wellFormed {cmd : CmdWord} {i : Instr} (h : decode cmd = .ok i) : i.wellFormed = true := by
  simp only [decode] at h
  repeat' split at h
  all_goals simp only [reduceCtorEq, Except.ok.injEq] at h
  all_goals subst h
  all_goals simp only [Instr.wellFormed, decide_eq_true_eq]
  assumption

/-- A step runs a presented command, or meets an illegal word, or is RST (20_memory.md R50; 30_encoding.md R64,
R70; 70_reset_and_hazards.md R220). -/
theorem step_effect {s t : State} (h : step s = .next t) :
    (∃ cmd i, nextInput s = .word cmd ∧ decode cmd = .ok i ∧ presentedCommand s = some i ∧
        t = commandWith refCfg i (acceptInput s)) ∨
      (∃ cmd, nextInput s = .word cmd ∧ presentedCommand s = none ∧ t = illegalWord (acceptInput s)) ∨
      (nextInput s = .rst ∧ presentedCommand s = none ∧ t = applyRst refCfg (acceptInput s)) := by
  unfold presentedCommand
  obtain ⟨cmd, i, hin, hdec, hex⟩ | ⟨cmd, e, hin, hdec, rfl⟩ | ⟨hin, rfl⟩ := step_cases h
  · exact .inl ⟨cmd, i, hin, hdec, by simp only [hin, hdec]; rfl, commandWith_of_exec hex⟩
  · exact .inr (.inl ⟨cmd, hin, by simp only [hin, hdec]; rfl, rfl⟩)
  · exact .inr (.inr ⟨hin, by simp only [hin], rfl⟩)

/-- A property of states holds after every step from `s` if every command, the illegal word and RST give it to
the state in which the input is accepted. -/
theorem step_gives {P : State → Prop} {s t : State} (h : step s = .next t)
    (hcmd : ∀ i, P (commandWith refCfg i (acceptInput s))) (hill : P (illegalWord (acceptInput s)))
    (hrst : P (applyRst refCfg (acceptInput s))) : P t := by
  obtain ⟨_, i, -, -, -, rfl⟩ | ⟨_, -, -, rfl⟩ | ⟨-, -, rfl⟩ := step_effect h
  · exact hcmd i
  · exact hill
  · exact hrst

/-! ### Frames of the commands -/

@[simp] theorem controlLatch_targets (c : Config) (s : State) : (controlLatch c s).targets = s.targets :=
  (controlLatch_spec c s).1

@[simp] theorem controlLatch_setup (c : Config) (s : State) : (controlLatch c s).setup = s.setup :=
  (controlLatch_spec c s).2.1

@[simp] theorem smoothPhase_targets (c : Config) (s : State) : (smoothPhase c s).targets = s.targets :=
  (smoothPhase_spec c s).1

@[simp] theorem smoothPhase_setup (c : Config) (s : State) : (smoothPhase c s).setup = s.setup :=
  (smoothPhase_spec c s).2.1

@[simp] theorem samplePhase_targets (c : Config) (left right : Operand) (s : State) :
    (samplePhase c left right s).targets = s.targets := rfl

@[simp] theorem samplePhase_setup (c : Config) (left right : Operand) (s : State) :
    (samplePhase c left right s).setup = s.setup := rfl

/-- PROCESS writes no target (49_cmd_process.md R193). -/
@[simp] theorem processWith_targets (c : Config) (left right : Operand) (s : State) :
    (processWith c left right s).targets = s.targets := by
  unfold processWith; split <;> simp

/-- PROCESS writes no configuration register (R193). -/
@[simp] theorem processWith_setup (c : Config) (left right : Operand) (s : State) :
    (processWith c left right s).setup = s.setup := by
  unfold processWith; split <;> simp

@[simp] theorem prepareAccept_targets (c : Config) (rate block : Operand) (s : State) :
    (prepareAccept c rate block s).targets = s.targets := rfl

@[simp] theorem prepareAccept_setup (c : Config) (rate block : Operand) (s : State) :
    (prepareAccept c rate block s).setup = deriveFs c true (prepareRate c rate) block := rfl

/-- PREPARE writes no target (47_cmd_lifecycle.md R171). -/
@[simp] theorem prepareWith_targets (c : Config) (rate block : Operand) (s : State) :
    (prepareWith c rate block s).targets = s.targets := by
  unfold prepareWith; split <;> simp

/-- What PREPARE does to the configuration registers (R171). -/
theorem prepareWith_setup (c : Config) (rate block : Operand) (s : State) :
    (prepareWith c rate block s).setup =
      if prepareRefused rate block then { s.setup with prepared := false }
      else deriveFs c true (prepareRate c rate) block := by
  unfold prepareWith; split <;> simp

@[simp] theorem setParam_setup (c : Config) (k : Fin 14) (v : Operand) (s : State) :
    (setParam c k v s).setup = s.setup := by
  unfold setParam; dsimp only; split <;> rfl

/-- SETP with an index of R31 (48_cmd_control.md R180). -/
theorem setpWith_of_lt (c : Config) {idx : Idx} (h : idx.toNat < 14) (v : Operand) (s : State) :
    setpWith c idx v s = noResponse (setParam c ⟨idx.toNat, h⟩ v s) := by
  simp [setpWith, paramIndex, h]

/-- SETP with any other index acts as the illegal word (log entry 11). -/
theorem setpWith_of_not_lt (c : Config) {idx : Idx} (h : ¬idx.toNat < 14) (v : Operand) (s : State) :
    setpWith c idx v s = illegalWord s := by
  simp [setpWith, paramIndex, h]

@[simp] theorem setpWith_setup (c : Config) (idx : Idx) (v : Operand) (s : State) :
    (setpWith c idx v s).setup = s.setup := by
  by_cases h : idx.toNat < 14
  · simp [setpWith_of_lt c h]
  · simp [setpWith_of_not_lt c h]

/-- A control command (20_memory.md R51). -/
def IsControl (i : Instr) : Prop :=
  (∃ k v, i = .setp k v) ∨ (∃ k, i = .setmode k) ∨ (∃ k, i = .setfrz k) ∨ ∃ k, i = .setcpx k

/-- Only a control command writes a target (10_state.md R11). -/
theorem commandWith_targets (c : Config) {i : Instr} (h : ¬IsControl i) (s : State) :
    (commandWith c i s).targets = s.targets := by
  cases i with
  | nop | reset | rdstat => rfl
  | prepare rate block => exact prepareWith_targets c rate block s
  | process left right => exact processWith_targets c left right s
  | setp | setmode | setfrz | setcpx => simp [IsControl] at h

/-- Only PREPARE writes a configuration register (10_state.md R14). -/
theorem commandWith_setup (c : Config) {i : Instr} (h : ∀ a b, i ≠ .prepare a b) (s : State) :
    (commandWith c i s).setup = s.setup := by
  cases i with
  | nop | reset | rdstat | setmode | setfrz | setcpx => rfl
  | prepare rate block => exact absurd rfl (h rate block)
  | process left right => exact processWith_setup c left right s
  | setp idx v => exact setpWith_setup c idx v s

/-! ### Targets stay in their ranges (10_state.md R11) -/

/-- A clamp of a value that is not a NaN lies between its bounds (40_numerics.md R84). -/
theorem within_fclamp {x lo hi : F32} (hx : isNaN x = false) (h : fle lo hi = true) :
    within lo hi (fclamp x lo hi) = true := by
  simp only [fle, Bool.and_eq_true, Bool.not_eq_true', decide_eq_true_eq] at h
  obtain ⟨⟨hlo, hhi⟩, hle⟩ := h
  simp only [fclamp, within, fle, flt, hx, hlo, hhi]
  split_ifs <;> simp_all

/-- The range of every parameter is not empty (10_state.md R31). -/
theorem pmin_le_pmax : ∀ k : Fin 14, fle refCfg.pmin[k] refCfg.pmax[k] = true := by decide +kernel

/-- What SETP stores is legal (48_cmd_control.md R180). -/
theorem legalParam_clampParam (k : Fin 14) {v : F32} (h : isNaN v = false) :
    legalParam k (clampParam refCfg k v) = true :=
  within_fclamp h (pmin_le_pmax k)

/-- Every preset value is legal (10_state.md R32). -/
theorem preset_legal : ∀ j : Fin 10,
    legalParam 6 refCfg.preset[j].xlo = true ∧ legalParam 7 refCfg.preset[j].xhi = true ∧
      legalParam 8 refCfg.preset[j].modrate = true ∧ legalParam 9 refCfg.preset[j].moddepth = true ∧
      legalParam 10 refCfg.preset[j].diffusion = true := by decide +kernel

/-- Every default is legal (10_state.md R31). -/
theorem pdef_legal : ∀ k : Fin 14, legalParam k refCfg.pdef[k] = true := by decide +kernel

/-- `PT` in its legal ranges, as a property of the registers alone. -/
def PtLegal (pt : Vector F32 14) : Prop := ∀ k : Fin 14, legalParam k pt[k] = true

/-- A legal value written into its register keeps the registers legal. -/
theorem PtLegal.set {pt : Vector F32 14} (h : PtLegal pt) (j : Fin 14) {v : F32} (hv : legalParam j v = true) :
    PtLegal (pt.set j.val v) := by
  intro k
  rw [Fin.getElem_fin, Vector.getElem_set]
  split
  · next hjk => rwa [← Fin.ext hjk]
  · exact h k

/-- SETP keeps the targets legal (48_cmd_control.md R180). -/
theorem setpWith_targetsLegal {s : State} (h : TargetsLegal s) (idx : Idx) (value : Operand) :
    TargetsLegal (setpWith refCfg idx value s) := by
  by_cases hi : idx.toNat < 14
  · rw [setpWith_of_lt refCfg hi, setParam]
    dsimp only
    split
    · exact h
    · next hv => exact PtLegal.set h ⟨idx.toNat, hi⟩ (legalParam_clampParam _ (by simpa using hv))
  · rw [setpWith_of_not_lt refCfg hi]; exact h

/-- SETMODE keeps the targets legal (48_cmd_control.md R181). -/
theorem setModeWith_targetsLegal {s : State} (h : TargetsLegal s) (idx : Idx) :
    TargetsLegal (setModeWith refCfg idx s) := by
  obtain ⟨hlo, hhi, hrate, hdepth, hdiff⟩ := preset_legal (modeIndex (modeOfIdx idx))
  exact ((((PtLegal.set h 6 hlo).set 7 hhi).set 8 hrate).set 9 hdepth).set 10 hdiff

/-- Every command keeps the targets legal. -/
theorem commandWith_targetsLegal {s : State} (h : TargetsLegal s) (i : Instr) :
    TargetsLegal (commandWith refCfg i s) := by
  by_cases hc : IsControl i
  · obtain ⟨idx, v, rfl⟩ | ⟨idx, rfl⟩ | ⟨idx, rfl⟩ | ⟨idx, rfl⟩ := hc
    · exact setpWith_targetsLegal h idx v
    · exact setModeWith_targetsLegal h idx
    · exact h
    · exact h
  · simpa only [TargetsLegal, commandWith_targets refCfg hc] using h

/-- Settles O34: SETP clamps, SETMODE loads a legal preset, RST loads the defaults, and nothing else writes `PT`. -/
theorem stepKeepsTargetsLegal : Obligations.StepKeepsTargetsLegal := by
  intro s t hs hstep
  exact step_gives hstep (commandWith_targetsLegal (s := acceptInput s) hs) hs pdef_legal

/-! ### The configuration registers stay derived (10_state.md R14) -/

/-- DERIVEFS gives derived registers for a rate in the range (47_cmd_lifecycle.md R175). -/
theorem setupDerived_of_deriveFs {s : State} {p : Bool} {fs : F32} {blk : BitVec 32}
    (h : s.setup = deriveFs refCfg p fs blk) (hfs : within refCfg.fsMin refCfg.fsMax fs = true) : SetupDerived s := by
  simp only [SetupDerived, h]
  exact ⟨hfs, rfl⟩

/-- The rate an accepted PREPARE takes is in the range (47_cmd_lifecycle.md R171). -/
theorem prepareRate_within {rate block : Operand} (h : prepareRefused rate block = false) :
    within refCfg.fsMin refCfg.fsMax (prepareRate refCfg rate) = true := by
  simp only [prepareRefused, Bool.or_eq_false_iff] at h
  obtain ⟨⟨hnan, -⟩, -⟩ := h
  exact within_fclamp hnan (by decide)

/-- The state after RST has derived registers (10_state.md R36). -/
theorem applyRst_setupDerived (s : State) : SetupDerived (applyRst refCfg s) :=
  setupDerived_of_deriveFs rfl (by decide)

/-- Every command keeps the registers derived: an accepted PREPARE derives them anew, and no other command writes
more than `PREPARED`. -/
theorem commandWith_setupDerived {s : State} (h : SetupDerived s) (i : Instr) :
    SetupDerived (commandWith refCfg i s) := by
  obtain ⟨hfs, hderived⟩ := h
  by_cases hp : ∃ a b, i = .prepare a b
  · obtain ⟨rate, block, rfl⟩ := hp
    have hset := prepareWith_setup refCfg rate block s
    cases hr : prepareRefused rate block with
    | true =>
      rw [hr, if_pos rfl, hderived] at hset
      exact setupDerived_of_deriveFs hset hfs
    | false =>
      rw [hr, if_neg Bool.false_ne_true] at hset
      exact setupDerived_of_deriveFs hset (prepareRate_within hr)
  · have hset := commandWith_setup refCfg (fun a b hi => hp ⟨a, b, hi⟩) s
    simpa only [SetupDerived, hset] using And.intro hfs hderived

/-- Settles O35: RST and an accepted PREPARE derive the registers anew, and nothing else writes more than
`PREPARED`. -/
theorem stepKeepsSetupDerived : Obligations.StepKeepsSetupDerived := by
  intro s t hs hstep
  exact step_gives hstep (commandWith_setupDerived (s := acceptInput s) hs) hs (applyRst_setupDerived _)

end Sys2Proof.Machine

/-! The status word, and which inputs write which registers (spec/10_state.md R10, R14 to R16). -/

namespace Sys2Proof.Machine

set_option Elab.async false

/-! ### The status word (10_state.md R15) -/

/-- The bits of `STATUS` from bit 0 up (R15). -/
def statusBits (s : State) : List Bool :=
  [s.setup.prepared, s.active.frz, s.active.cpx, ramping s.smoothers] ++
    List.ofFn (fun j : Fin 4 => (modeBits s.active.mode).getLsbD j) ++
    [s.sticky.pcl, s.sticky.icl, s.sticky.dcl, s.sticky.fcl, s.sticky.pfail, s.sticky.ill]

/-- Every bit of the status word: those of R15, and zeros above. -/
theorem statusWord_getLsbD (s : State) (n : Nat) : (statusWord s).getLsbD n = (statusBits s).getD n false := by
  by_cases hn : n < 32
  · simp only [statusWord, BitVec.getLsbD_append, BitVec.getLsbD_ofBool]
    interval_cases n <;> rfl
  · rw [BitVec.getLsbD_of_ge _ _ (by omega), List.getD_eq_default _ _ (by simp [statusBits]; omega)]

/-- `STATUS[7:4]` is the number of the active mode (R15). -/
theorem statusWord_mode (s : State) : (statusWord s).extractLsb' 4 4 = modeBits s.active.mode := by
  ext j hj
  rw [BitVec.getElem_extractLsb', statusWord_getLsbD]
  interval_cases j <;> rfl

/-- `STATUS[31:14]` is zero (R15). -/
theorem statusWord_high (s : State) : (statusWord s).extractLsb' 14 18 = 0 := by
  ext j hj
  rw [BitVec.getElem_extractLsb', statusWord_getLsbD, List.getD_eq_default _ _ (by simp [statusBits])]
  simp

/-- Outside bits 13:8 the status word depends on `PREPARED`, the active controls and the smoothers only (R15). -/
theorem statusWord_masked {s s' : State} (hprep : s'.setup.prepared = s.setup.prepared)
    (hact : s'.active = s.active) (hsm : s'.smoothers = s.smoothers) :
    statusWord s' &&& 0xFFFFC0FF#32 = statusWord s &&& 0xFFFFC0FF#32 := by
  ext j hj
  simp only [← BitVec.getLsbD_eq_getElem, BitVec.getLsbD_and, statusWord_getLsbD, statusBits, hprep, hact, hsm]
  interval_cases j <;> simp

/-- Four bits hold the number of a mode (R30). -/
theorem modeBits_toNat (m : Mode) : (modeBits m).toNat = (modeIndex m).val := by
  cases m <;> rfl

/-- `RAMPING`: some countdown is above 0 (R15). -/
theorem ramping_iff (sm : Vector Smoother 14) : ramping sm = true ↔ ∃ k : Fin 14, 0 < sm[k].cnt.toNat := by
  simp only [ramping, Vector.any_eq_true, bne_iff_ne, ne_eq, Fin.exists_iff, Fin.getElem_fin, Nat.pos_iff_ne_zero,
    BitVec.toNat_ne]
  rfl

/-- Settles O13, from the list of the bits of the status word. -/
theorem rdstatReportsStatus : Obligations.RdstatReportsStatus := by
  intro s
  refine ⟨statusWord s, rfl, ?_⟩
  rw [← ramping_iff, statusWord_mode, statusWord_high, modeBits_toNat]
  simp only [statusWord_getLsbD, statusBits]
  simp

/-! ### The writers of the targets and of the configuration registers (R10, R14; 20_memory.md R51) -/

/-- A control command that a word holds writes the targets, `S_PCL` and the response only (20_memory.md R51). -/
theorem commandWith_control (c : Config) {i : Instr} (hc : IsControl i) (hw : i.wellFormed = true) (s : State) :
    commandWith c i s = { s with
      targets := (commandWith c i s).targets
      sticky := { s.sticky with pcl := (commandWith c i s).sticky.pcl }
      rsp := none } := by
  obtain ⟨idx, v, rfl⟩ | ⟨idx, rfl⟩ | ⟨idx, rfl⟩ | ⟨idx, rfl⟩ := hc
  · have hidx : idx.toNat < 14 := Nat.lt_succ_of_le (of_decide_eq_true hw)
    simp only [commandWith, setpWith_of_lt c hidx, setParam]
    split <;> rfl
  · rfl
  · rfl
  · rfl

/-- Settles O20, from what each kind of command leaves unchanged. -/
theorem targetsAndSetupHaveTheirWriters : Obligations.TargetsAndSetupHaveTheirWriters := by
  intro s t hstep control
  obtain ⟨cmd, i, -, hdec, hpres, rfl⟩ | ⟨_, -, hpres, rfl⟩ | ⟨hin, hpres, rfl⟩ := step_effect hstep
  · refine ⟨fun hne => .inr ⟨i, hpres, ?_⟩, fun hne => .inr ?_, ?_⟩
    · by_contra hc
      exact hne (commandWith_targets refCfg hc (acceptInput s))
    · by_contra hp
      exact hne (commandWith_setup refCfg (fun a b hi => hp ⟨a, b, hi ▸ hpres⟩) (acceptInput s))
    · rintro ⟨j, hj, hc⟩
      obtain rfl : i = j := Option.some.inj (hpres.symm.trans hj)
      exact commandWith_control refCfg hc (decode_wellFormed hdec) (acceptInput s)
  · refine ⟨fun hne => absurd rfl hne, fun hne => absurd rfl hne, ?_⟩
    rintro ⟨j, hj, -⟩
    exact absurd (hpres.symm.trans hj) nofun
  · refine ⟨fun _ => .inl hin, fun _ => .inl hin, ?_⟩
    rintro ⟨j, hj, -⟩
    exact absurd (hpres.symm.trans hj) nofun

/-! ### What the commands do to the sticky bits (R16; 60_exceptions.md R201) -/

@[simp] theorem flagDcl_false (k : Sticky) : flagDcl false k = k := by simp [flagDcl]

@[simp] theorem flagDcl_flagDcl (a b : Bool) (k : Sticky) : flagDcl a (flagDcl b k) = flagDcl (b || a) k := by
  simp [flagDcl, Bool.or_assoc]

/-- A mode switch raises no sticky bit but `S_DCL` (49_cmd_process.md R191). -/
theorem modeSwitch_sticky (c : Config) (s : State) : ∃ d, (modeSwitch c s).sticky = flagDcl d s.sticky := by
  unfold modeSwitch
  split
  · exact ⟨false, (flagDcl_false _).symm⟩
  · exact ⟨_, rfl⟩

/-- CONTROLLATCH raises no sticky bit but `S_DCL` (R191). -/
theorem controlLatch_sticky (c : Config) (s : State) : ∃ d, (controlLatch c s).sticky = flagDcl d s.sticky := by
  simpa [controlLatch] using modeSwitch_sticky c s

/-- Steps P2 and P3 raise no sticky bit but `S_DCL` (R190). -/
theorem smoothPhase_sticky (c : Config) (s : State) : ∃ d, (smoothPhase c s).sticky = flagDcl d s.sticky := by
  unfold smoothPhase
  split
  · exact ⟨_, rfl⟩
  · exact ⟨false, (flagDcl_false _).symm⟩

/-- Steps P4 to P7 raise `S_ICL`, `S_DCL` and `S_FCL` (R190). -/
theorem samplePhase_sticky (c : Config) (left right : Operand) (s : State) :
    ∃ f d i, (samplePhase c left right s).sticky = flagFcl f (flagDcl d (flagIcl i s.sticky)) :=
  ⟨_, _, _, rfl⟩

/-- PROCESS raises `S_ICL`, `S_DCL` and `S_FCL` and no other sticky bit (60_exceptions.md R201). -/
theorem processWith_sticky (c : Config) (left right : Operand) (s : State) :
    ∃ f d i, (processWith c left right s).sticky = flagFcl f (flagDcl d (flagIcl i s.sticky)) := by
  unfold processWith
  split
  · obtain ⟨d₁, h₁⟩ := controlLatch_sticky c s
    obtain ⟨d₂, h₂⟩ := smoothPhase_sticky c (controlLatch c s)
    obtain ⟨f, d, i, h⟩ := samplePhase_sticky c left right (smoothPhase c (controlLatch c s))
    refine ⟨f, d₁ || d₂ || d, i, ?_⟩
    rw [h, h₂, h₁, flagDcl_flagDcl, ← flagDcl_flagDcl (a := d)]
    rfl
  · exact ⟨false, false, false, by simp [flagFcl, flagIcl]⟩

/-- SETP with an index of 10_state.md R31 raises no sticky bit but `S_PCL` (48_cmd_control.md R180). -/
theorem setpWith_sticky (c : Config) {idx : Idx} (h : idx.toNat < 14) (v : Operand) (s : State) :
    ∃ p, (setpWith c idx v s).sticky = flagPcl p s.sticky := by
  rw [setpWith_of_lt c h, noResponse_sticky]
  unfold setParam
  dsimp only
  split <;> exact ⟨_, rfl⟩

/-- A refused PREPARE raises `S_PFAIL` (47_cmd_lifecycle.md R171). -/
theorem prepareWith_sticky_refused (c : Config) {rate block : Operand} (h : prepareRefused rate block = true)
    (s : State) : (prepareWith c rate block s).sticky = flagPfail s.sticky := by
  simp [prepareWith, h]

/-- An accepted PREPARE clears the sticky bits first (R171). -/
theorem prepareWith_sticky_accepted (c : Config) {rate block : Operand} (h : prepareRefused rate block = false)
    (s : State) : ∃ p d, (prepareWith c rate block s).sticky = flagDcl d (flagPcl p noSticky) := by
  simp only [prepareWith, h]
  exact ⟨_, _, rfl⟩

/-- Settles O29, row by row of the table of R201. -/
theorem stickyBitsFollowTheirTable : Obligations.StickyBitsFollowTheirTable := by
  intro s t hstep hrst runs isPrepare isProcess
  obtain ⟨cmd, i, -, hdec, hpres, rfl⟩ | ⟨_, -, hpres, rfl⟩ | ⟨hin, -⟩ := step_effect hstep
  · have hruns : ∀ p, runs p ↔ p i := fun p => by simp [runs, hpres]
    simp only [hruns, isPrepare, isProcess]
    cases i with
    | nop | rdstat | setfrz | setcpx => simp +contextual [commandWith]
    | reset => simp +contextual [commandWith]
    | process left right =>
      obtain ⟨f, d, i, h⟩ := processWith_sticky refCfg left right (acceptInput s)
      simp +contextual [commandWith, h]
    | setp idx v =>
      have hidx : idx.toNat < 14 := Nat.lt_succ_of_le (of_decide_eq_true (decode_wellFormed hdec))
      obtain ⟨p, h⟩ := setpWith_sticky refCfg hidx v (acceptInput s)
      simp +contextual [commandWith, h]
    | setmode idx => simp +contextual [commandWith]
    | prepare rate block =>
      cases hr : prepareRefused rate block with
      | true => simp +contextual [commandWith, prepareWith_sticky_refused refCfg hr, hr]
      | false =>
        obtain ⟨p, d, h⟩ := prepareWith_sticky_accepted refCfg hr (acceptInput s)
        simp [commandWith, h, hr, noSticky]
  · have hruns : ∀ p, ¬runs p := fun p => by simp [runs, hpres]
    simp +contextual [hruns, hpres]
  · exact absurd hin hrst

end Sys2Proof.Machine

/-! Two-state comparisons: what no rule reads (spec/10_state.md R14, R16, R21). -/

namespace Sys2Proof.Machine

set_option Elab.async false

/-! ### The sticky bits and `MAXBLK` are not read (10_state.md R14, R16) -/

/-- A state with other sticky bits and another `MAXBLK`. -/
def withUnread (k : Sticky) (blk : BitVec 32) (s : State) : State :=
  { s with sticky := k, setup := { s.setup with maxblk := blk } }

/-- Each sticky bit of the result depends on the same bit of the argument only. -/
def BitByBit (g : Sticky → Sticky) : Prop :=
  ∀ k k' : Sticky, (k'.pcl = k.pcl → (g k').pcl = (g k).pcl) ∧ (k'.icl = k.icl → (g k').icl = (g k).icl) ∧
    (k'.dcl = k.dcl → (g k').dcl = (g k).dcl) ∧ (k'.fcl = k.fcl → (g k').fcl = (g k).fcl) ∧
    (k'.pfail = k.pfail → (g k').pfail = (g k).pfail) ∧ (k'.ill = k.ill → (g k').ill = (g k).ill)

theorem bitByBit_id : BitByBit id := by simp [BitByBit]

theorem bitByBit_const (k : Sticky) : BitByBit fun _ => k := by simp [BitByBit]

theorem bitByBit_flagPcl (on : Bool) : BitByBit (flagPcl on) := by simp +contextual [BitByBit]

theorem bitByBit_flagIcl (on : Bool) : BitByBit (flagIcl on) := by simp +contextual [BitByBit]

theorem bitByBit_flagDcl (on : Bool) : BitByBit (flagDcl on) := by simp +contextual [BitByBit]

theorem bitByBit_flagFcl (on : Bool) : BitByBit (flagFcl on) := by simp +contextual [BitByBit]

theorem bitByBit_flagPfail : BitByBit flagPfail := by simp +contextual [BitByBit]

theorem bitByBit_flagIll : BitByBit flagIll := by simp +contextual [BitByBit]

/-- Bitwise functions compose bit by bit. -/
theorem BitByBit.comp {f g : Sticky → Sticky} (hf : BitByBit f) (hg : BitByBit g) : BitByBit (f ∘ g) := by
  intro k k'
  obtain ⟨f₁, f₂, f₃, f₄, f₅, f₆⟩ := hf (g k) (g k')
  obtain ⟨g₁, g₂, g₃, g₄, g₅, g₆⟩ := hg k k'
  exact ⟨f₁ ∘ g₁, f₂ ∘ g₂, f₃ ∘ g₃, f₄ ∘ g₄, f₅ ∘ g₅, f₆ ∘ g₆⟩

/-- An operation reads neither the sticky bits, each but for its own next value, nor `MAXBLK`: other values there
change nothing else of what it gives. -/
def IgnoresUnread (f : State → State) : Prop :=
  ∀ s, ∃ (g : Sticky → Sticky) (h : BitVec 32 → BitVec 32), BitByBit g ∧
    ∀ k blk, f (withUnread k blk s) = withUnread (g k) (h blk) (f s)

/-- An operation that passes the sticky bits and `MAXBLK` on. -/
theorem ignoresUnread_of_commutes {f : State → State}
    (h : ∀ s k blk, f (withUnread k blk s) = withUnread k blk (f s)) :
    IgnoresUnread f := fun s => ⟨id, id, bitByBit_id, h s⟩

/-- Two such operations in a row. -/
theorem IgnoresUnread.comp {f g : State → State} (hf : IgnoresUnread f) (hg : IgnoresUnread g) :
    IgnoresUnread fun s => f (g s) := by
  intro s
  obtain ⟨kg, bg, hkg, eqg⟩ := hg s
  obtain ⟨kf, bf, hkf, eqf⟩ := hf (g s)
  exact ⟨kf ∘ kg, bf ∘ bg, hkf.comp hkg, fun k blk => (congrArg f (eqg k blk)).trans (eqf _ _)⟩

/-- A choice between two such operations, by a condition on the rest of the state. -/
theorem IgnoresUnread.ite {p : State → Prop} [DecidablePred p] {f g : State → State}
    (hp : ∀ s k blk, p (withUnread k blk s) ↔ p s) (hf : IgnoresUnread f) (hg : IgnoresUnread g) :
    IgnoresUnread fun s => if p s then f s else g s := by
  intro s
  by_cases h : p s
  · simpa only [hp, h, if_true] using hf s
  · simpa only [hp, h, if_false] using hg s

theorem ignoresUnread_emit (v : Response) : IgnoresUnread (emit v) := ignoresUnread_of_commutes fun _ _ _ => rfl

theorem ignoresUnread_noResponse : IgnoresUnread noResponse := ignoresUnread_of_commutes fun _ _ _ => rfl

theorem ignoresUnread_recompute (c : Config) : IgnoresUnread (recompute c) :=
  fun s => ⟨flagDcl (lengthClamped c s.active.mode s.setup.fsk (currents s.smoothers)[1]), id, bitByBit_flagDcl _,
    fun _ _ => rfl⟩

theorem ignoresUnread_reload (c : Config) : IgnoresUnread (reload c) :=
  (ignoresUnread_recompute c).comp
    (ignoresUnread_of_commutes (f := fun s => snap (engineClear c (latchControls s))) fun _ _ _ => rfl)

theorem ignoresUnread_illegalWord : IgnoresUnread illegalWord :=
  fun _ => ⟨flagIll, id, bitByBit_flagIll, fun _ _ => rfl⟩

theorem ignoresUnread_applyRst (c : Config) : IgnoresUnread (applyRst c) :=
  fun s => ⟨fun _ => (applyRst c s).sticky, fun _ => 0, bitByBit_const _, fun _ _ => rfl⟩

theorem ignoresUnread_prepareAccept (c : Config) (rate block : Operand) : IgnoresUnread (prepareAccept c rate block) :=
  fun s => ⟨fun _ => (prepareAccept c rate block s).sticky, fun _ => block, bitByBit_const _, fun _ _ => rfl⟩

theorem ignoresUnread_prepareWith (c : Config) (rate block : Operand) : IgnoresUnread (prepareWith c rate block) := by
  refine ignoresUnread_noResponse.comp (.ite (fun _ _ _ => Iff.rfl) ?_ (ignoresUnread_prepareAccept c rate block))
  exact fun _ => ⟨flagPfail, id, bitByBit_flagPfail, fun _ _ => rfl⟩

theorem ignoresUnread_modeSwitch (c : Config) : IgnoresUnread (modeSwitch c) := by
  refine .ite (fun _ _ _ => Iff.rfl) (ignoresUnread_of_commutes fun _ _ _ => rfl) ?_
  exact (ignoresUnread_recompute c).comp (ignoresUnread_of_commutes fun _ _ _ => rfl)

theorem ignoresUnread_freezeToggle : IgnoresUnread freezeToggle :=
  .ite (fun _ _ _ => Iff.rfl) (ignoresUnread_of_commutes fun _ _ _ => rfl) (ignoresUnread_of_commutes fun _ _ _ => rfl)

theorem ignoresUnread_controlLatch (c : Config) : IgnoresUnread (controlLatch c) :=
  IgnoresUnread.comp (f := fun s => { s with active := { s.active with cpx := s.targets.cpxT } })
    (ignoresUnread_of_commutes fun _ _ _ => rfl) (ignoresUnread_freezeToggle.comp (ignoresUnread_modeSwitch c))

theorem ignoresUnread_smoothPhase (c : Config) : IgnoresUnread (smoothPhase c) := by
  have hsmooth : IgnoresUnread fun s =>
      { s with smoothers := smoothStep s.setup.ramp s.targets.pt s.smoothers } :=
    ignoresUnread_of_commutes fun _ _ _ => rfl
  exact .ite (fun _ _ _ => Iff.rfl) ((ignoresUnread_recompute c).comp hsmooth) hsmooth

theorem ignoresUnread_samplePhase (c : Config) (left right : Operand) : IgnoresUnread (samplePhase c left right) := by
  intro s
  let raised := (samplePhase c left right { s with sticky := noSticky }).sticky
  exact ⟨flagFcl raised.fcl ∘ flagDcl raised.dcl ∘ flagIcl raised.icl, id,
    (bitByBit_flagFcl _).comp ((bitByBit_flagDcl _).comp (bitByBit_flagIcl _)), fun _ _ => rfl⟩

theorem ignoresUnread_processWith (c : Config) (left right : Operand) : IgnoresUnread (processWith c left right) :=
  .ite (fun _ _ _ => Iff.rfl)
    ((ignoresUnread_samplePhase c left right).comp ((ignoresUnread_smoothPhase c).comp (ignoresUnread_controlLatch c)))
    (ignoresUnread_emit _)

theorem ignoresUnread_setParam (c : Config) (k : Fin 14) (v : Operand) : IgnoresUnread (setParam c k v) :=
  .ite (fun _ _ _ => Iff.rfl) (fun _ => ⟨_, id, bitByBit_flagPcl _, fun _ _ => rfl⟩)
    (fun _ => ⟨_, id, bitByBit_flagPcl _, fun _ _ => rfl⟩)

theorem ignoresUnread_setpWith (c : Config) (idx : Idx) (v : Operand) : IgnoresUnread (setpWith c idx v) := by
  by_cases h : idx.toNat < 14
  · rw [show setpWith c idx v = _ from funext (setpWith_of_lt c h v)]
    exact ignoresUnread_noResponse.comp (ignoresUnread_setParam c _ v)
  · rw [show setpWith c idx v = illegalWord from funext (setpWith_of_not_lt c h v)]
    exact ignoresUnread_illegalWord

/-- No command but RDSTAT reads a sticky bit, and none reads `MAXBLK`. -/
theorem ignoresUnread_commandWith (c : Config) {i : Instr} (hi : i ≠ .rdstat) : IgnoresUnread (commandWith c i) := by
  cases i with
  | nop => exact ignoresUnread_noResponse
  | prepare rate block => exact ignoresUnread_prepareWith c rate block
  | reset => exact ignoresUnread_noResponse.comp (ignoresUnread_reload c)
  | process left right => exact ignoresUnread_processWith c left right
  | rdstat => exact absurd rfl hi
  | setp idx v => exact ignoresUnread_setpWith c idx v
  | setmode idx => exact fun _ => ⟨_, id, bitByBit_flagPcl _, fun _ _ => rfl⟩
  | setfrz idx => exact ignoresUnread_of_commutes fun _ _ _ => rfl
  | setcpx idx => exact ignoresUnread_of_commutes fun _ _ _ => rfl

/-- What two states that differ in the sticky bits and `MAXBLK` before a step have in common after it. -/
def UnreadApart (k₀ k : Sticky) (t t' : State) : Prop :=
  t' = { t with sticky := t'.sticky, setup := { t.setup with maxblk := t'.setup.maxblk }, rsp := t'.rsp } ∧
    (k.pcl = k₀.pcl → t'.sticky.pcl = t.sticky.pcl) ∧ (k.icl = k₀.icl → t'.sticky.icl = t.sticky.icl) ∧
    (k.dcl = k₀.dcl → t'.sticky.dcl = t.sticky.dcl) ∧ (k.fcl = k₀.fcl → t'.sticky.fcl = t.sticky.fcl) ∧
    (k.pfail = k₀.pfail → t'.sticky.pfail = t.sticky.pfail) ∧ (k.ill = k₀.ill → t'.sticky.ill = t.sticky.ill) ∧
    (k = k₀ → t'.rsp = t.rsp) ∧
    (t'.rsp = t.rsp ∨ ∃ w w' : BitVec 32, t.rsp = some (.status w) ∧ t'.rsp = some (.status w') ∧
      w' &&& 0xFFFFC0FF#32 = w &&& 0xFFFFC0FF#32)

/-- What such an operation gives from two states that differ in the sticky bits and `MAXBLK`. -/
theorem IgnoresUnread.apart {f : State → State} (hf : IgnoresUnread f) (s : State) (k : Sticky) (blk : BitVec 32) :
    UnreadApart s.sticky k (f s) (f (withUnread k blk s)) := by
  obtain ⟨g, h, hg, heq⟩ := hf s
  have hself : f s = withUnread (g s.sticky) (h s.setup.maxblk) (f s) := heq s.sticky s.setup.maxblk
  have hsticky : (f s).sticky = g s.sticky := congrArg State.sticky hself
  obtain ⟨h₁, h₂, h₃, h₄, h₅, h₆⟩ := hg s.sticky k
  rw [heq]
  refine ⟨rfl, ?_, ?_, ?_, ?_, ?_, ?_, fun _ => rfl, .inl rfl⟩ <;> rw [hsticky] <;> assumption

/-- RDSTAT reads the sticky bits into bits 13:8 of its response (R15). -/
theorem reportStatus_apart (s : State) (k : Sticky) (blk : BitVec 32) :
    UnreadApart s.sticky k (reportStatus s) (reportStatus (withUnread k blk s)) := by
  refine ⟨rfl, id, id, id, id, id, id, ?_, .inr ⟨_, _, rfl, rfl, statusWord_masked rfl rfl rfl⟩⟩
  rintro rfl
  rfl

theorem wordWith_apart (cmd : CmdWord) (s : State) (k : Sticky) (blk : BitVec 32) :
    UnreadApart s.sticky k (wordWith refCfg cmd s) (wordWith refCfg cmd (withUnread k blk s)) := by
  unfold wordWith
  cases decode cmd with
  | error e => exact ignoresUnread_illegalWord.apart s k blk
  | ok i =>
    by_cases hi : i = .rdstat
    · subst hi; exact reportStatus_apart s k blk
    · exact (ignoresUnread_commandWith refCfg hi).apart s k blk

/-- Settles O30: every operation but RDSTAT ignores the sticky bits and `MAXBLK`, and RDSTAT only reports them. -/
theorem stickyAndMaxblkAreNotRead : Obligations.StickyAndMaxblkAreNotRead := by
  intro s k blk
  refine ⟨stepWith refCfg s, stepWith refCfg (withUnread k blk s), step_eq_stepWith _, step_eq_stepWith _, ?_⟩
  have hin : nextInput (withUnread k blk s) = nextInput s := rfl
  simp only [stepWith, hin]
  cases nextInput s with
  | word cmd => exact wordWith_apart cmd (acceptInput s) k blk
  | rst => exact (ignoresUnread_applyRst refCfg).apart (acceptInput s) k blk

/-! ### While unprepared nothing reads a delay line (R21; 70_reset_and_hazards.md R220) -/

/-- A state with other delay lines. -/
def withLines (dl : Vector (Line 15) 8) (ap : Vector (Vector (Line 12) 4) 2) (s : State) : State :=
  { s with dl := dl, ap := ap }

/-- Two states are equal but for the delay lines, and equal in full if the engine is prepared. -/
def LinesApart (t t' : State) : Prop :=
  t' = { t with dl := t'.dl, ap := t'.ap } ∧ (t.setup.prepared = true → t' = t)

theorem linesApart_refl (t : State) : LinesApart t t := ⟨rfl, fun _ => rfl⟩

/-- Unprepared states that differ in the delay lines only. -/
theorem linesApart_withLines {t : State} (h : t.setup.prepared = false) (dl : Vector (Line 15) 8)
    (ap : Vector (Vector (Line 12) 4) 2) : LinesApart t (withLines dl ap t) :=
  ⟨rfl, fun hp => absurd (hp.symm.trans h) Bool.noConfusion⟩

/-- The sequence PREPARE and RESET share clears the lines before anything reads them (47_cmd_lifecycle.md R174). -/
theorem reload_withLines (c : Config) (dl : Vector (Line 15) 8) (ap : Vector (Vector (Line 12) 4) 2) (s : State) :
    reload c (withLines dl ap s) = reload c s := rfl

theorem setpWith_withLines (c : Config) (idx : Idx) (v : Operand) (dl : Vector (Line 15) 8)
    (ap : Vector (Vector (Line 12) 4) 2) (s : State) :
    setpWith c idx v (withLines dl ap s) = withLines dl ap (setpWith c idx v s) := by
  by_cases h : idx.toNat < 14
  · simp only [setpWith_of_lt c h, setParam]
    split <;> rfl
  · simp only [setpWith_of_not_lt c h]; rfl

/-- Step P0: an unprepared PROCESS answers silence (49_cmd_process.md R190). -/
theorem processWith_unprepared (c : Config) (left right : Operand) {s : State} (h : s.setup.prepared = false) :
    processWith c left right s = emit (.audio (rsp64 fzero fzero)) s := by
  simp [processWith, h]

/-- A command an unprepared engine runs passes the delay lines on, or clears them first. -/
theorem commandWith_linesApart (c : Config) (i : Instr) {s : State} (h : s.setup.prepared = false)
    (dl : Vector (Line 15) 8) (ap : Vector (Vector (Line 12) 4) 2) :
    LinesApart (commandWith c i s) (commandWith c i (withLines dl ap s)) := by
  cases i with
  | nop | rdstat | setmode | setfrz | setcpx => exact linesApart_withLines (by exact h) dl ap
  | reset => exact linesApart_refl _
  | setp idx v =>
    simp only [commandWith, setpWith_withLines]
    exact linesApart_withLines (by rw [setpWith_setup, h]) dl ap
  | process left right =>
    have h' : (withLines dl ap s).setup.prepared = false := h
    simp only [commandWith, processWith_unprepared c left right h, processWith_unprepared c left right h']
    exact linesApart_withLines (t := emit _ s) h dl ap
  | prepare rate block =>
    simp only [commandWith, prepareWith]
    split
    · exact linesApart_withLines rfl dl ap
    · exact linesApart_refl _

theorem wordWith_linesApart (c : Config) (cmd : CmdWord) {s : State} (h : s.setup.prepared = false)
    (dl : Vector (Line 15) 8) (ap : Vector (Vector (Line 12) 4) 2) :
    LinesApart (wordWith c cmd s) (wordWith c cmd (withLines dl ap s)) := by
  unfold wordWith
  cases decode cmd with
  | error e => exact linesApart_withLines (by exact h) dl ap
  | ok i => exact commandWith_linesApart c i h dl ap

/-- Settles O46: an unprepared engine passes its lines on, and the one way out clears them. -/
theorem delayMemoryIsUnobservableUntilCleared : Obligations.DelayMemoryIsUnobservableUntilCleared := by
  intro s dl ap hs
  refine ⟨stepWith refCfg s, stepWith refCfg (withLines dl ap s), step_eq_stepWith _, step_eq_stepWith _, ?_⟩
  have hin : nextInput (withLines dl ap s) = nextInput s := rfl
  simp only [stepWith, hin]
  cases nextInput s with
  | word cmd => exact wordWith_linesApart refCfg cmd (s := acceptInput s) hs dl ap
  | rst => exact linesApart_withLines (t := applyRst refCfg (acceptInput s)) rfl _ _

end Sys2Proof.Machine

/-! The state after RST: its values and its invariants (spec/10_state.md R36). -/

namespace Sys2Proof.Machine

set_option Elab.async false

/-! ### The state after RST (10_state.md R36) -/

/-- After a snap the current values are the targets (46_param_smoothing.md R164). -/
@[simp] theorem currents_map_snapped (pt : Vector F32 14) : currents (pt.map snapped) = pt := by
  ext k hk
  simp [currents, snapped]

/-- What DERIVEFS computes at the default rate (47_cmd_lifecycle.md R175). -/
theorem resetSetup_values :
    State.reset.setup.fs = 0x473B8000#32 ∧ State.reset.setup.fsk = 0x3F800000#32 ∧
      State.reset.setup.fsm = 0x42400000#32 ∧ State.reset.setup.ramp.toNat = 960 := by decide +kernel

/-- At the default rate the stage lengths are those of the table (42_allpass_diffuser.md R113; 10_state.md R35). -/
theorem resetSetup_aplen :
    ∀ (ch : Fin 2) (k : Fin 4), State.reset.setup.aplen[ch][k].toNat = refCfg.ap48[ch][k] := by decide +kernel

theorem reset_smoothers : State.reset.smoothers = refCfg.pdef.map snapped := rfl

theorem reset_dl (i : Fin 8) : State.reset.dl[i] = clearLine := Vector.getElem_replicate ..

theorem reset_ap (ch : Fin 2) (k : Fin 4) : State.reset.ap[ch][k] = clearLine := by
  simp [State.reset, State.resetWith]

theorem reset_smoother (k : Fin 14) : State.reset.smoothers[k] = snapped refCfg.pdef[k] := by
  simp [State.reset, State.resetWith]

theorem reset_filter (i : Fin 8) : State.reset.filters[i] = clearFilter := Vector.getElem_replicate ..

/-- RECOMPUTE of the reset values changes no coefficient register (43_decay_filter.md R127). -/
theorem reset_coeffsCurrent : CoeffsCurrent State.reset := by
  rw [CoeffsCurrent, reset_smoothers, currents_map_snapped]
  rfl

/-- Settles O9, register group by register group. -/
theorem resetStateValues : Obligations.ResetStateValues := by
  obtain ⟨hfs, hfsk, hfsm, hramp⟩ := resetSetup_values
  exact ⟨fun _ => rfl, rfl, rfl, rfl, rfl, rfl, rfl, rfl, hfs, rfl, hfsk, hfsm, hramp, resetSetup_aplen, rfl,
    reset_smoother, reset_coeffsCurrent, reset_filter, fun _ => rfl, fun _ => rfl, rfl,
    fun i => by rw [reset_dl]; rfl, fun ch k => by rw [reset_ap]; rfl⟩

/-! ### The state after RST has every invariant -/

theorem reset_setupDerived : SetupDerived State.reset := setupDerived_of_deriveFs rfl (by decide)

theorem reset_smoothersWellFormed : SmoothersWellFormed State.reset := by
  intro k
  rw [reset_smoother]
  exact ⟨Nat.zero_le _, fun _ => rfl⟩

theorem reset_memoriesCanonical : MemoriesCanonical State.reset :=
  ⟨fun i => by rw [reset_dl]; rfl, fun ch k => by rw [reset_ap]; rfl⟩

theorem reset_fdnWordsBounded : FdnWordsBounded State.reset := fun i => by rw [reset_dl]; rfl

theorem reset_headsInStep : HeadsInStep State.reset :=
  ⟨fun i => by rw [reset_dl]; rfl, fun ch k => by rw [reset_ap]; rfl⟩

theorem reset_noSubnormals : NoSubnormals State.reset := by decide +kernel

theorem reset_phasesInUnit : PhasesInUnit State.reset := by decide +kernel

theorem reset_lfsrNonzero : LfsrNonzero State.reset := by decide

/-- After RST every smoother is idle on a legal default (10_state.md R36). -/
theorem reset_rampsLegal : RampsLegal State.reset := by
  intro k
  rw [reset_smoother]
  exact ⟨pdef_legal k, pdef_legal k, fun moving => absurd rfl moving⟩

/-- Settles O11, invariant by invariant. -/
theorem resetStateIsGood : Obligations.ResetStateIsGood :=
  ⟨⟨pdef_legal, reset_setupDerived, reset_smoothersWellFormed, reset_coeffsCurrent, reset_memoriesCanonical,
    reset_fdnWordsBounded, reset_lfsrNonzero, reset_noSubnormals, reset_headsInStep, reset_phasesInUnit⟩,
    reset_rampsLegal⟩

end Sys2Proof.Machine

/-! Monotone bounds of products and quotients, and the nominal lengths (spec/40_numerics.md R81 to R84,
spec/10_state.md R32, spec/43_decay_filter.md R125). -/

namespace Sys2Proof.Machine

set_option Elab.async false

/-! ### Rounding is monotone (40_numerics.md R81) -/

/-- The integer nearest to a quotient is its floor or the next one. -/
theorem roundHalfEven_bounds (p q : Nat) : p / q ≤ roundHalfEven p q ∧ roundHalfEven p q ≤ p / q + 1 := by
  unfold roundHalfEven
  dsimp only
  split_ifs <;> omega

/-- A quotient below an integer does not round above it. -/
theorem roundHalfEven_le {p q n : Nat} (h : p < n * q) : roundHalfEven p q ≤ n :=
  (roundHalfEven_bounds p q).2.trans (Nat.div_lt_of_lt_mul (by rwa [Nat.mul_comm]))

theorem roundHalfEven_mono {p p' : Nat} (q : Nat) (h : p ≤ p') : roundHalfEven p q ≤ roundHalfEven p' q := by
  have hdiv : p / q ≤ p' / q := Nat.div_le_div_right h
  rcases hdiv.lt_or_eq with hlt | heq
  · exact (roundHalfEven_bounds p q).2.trans (hlt.trans_le (roundHalfEven_bounds p' q).1)
  · have hmod : p % q ≤ p' % q := by
      have h₁ := Nat.div_add_mod p q
      have h₂ := Nat.div_add_mod p' q
      rw [heq] at h₁
      omega
    unfold roundHalfEven
    dsimp only
    rw [heq]
    split_ifs <;> omega

/-- The spacing `2^k` of R81 at a quotient: it is below `2^24` units of the spacing. -/
theorem lt_spacing (p : Nat) {q : Nat} (hq : 0 < q) : p < 2 ^ 24 * (q * 2 ^ (Nat.log2 (p / q) - 23)) := by
  have hlog : p / q < 2 ^ (Nat.log2 (p / q) + 1) := Nat.lt_log2_self
  have hpow : 2 ^ (Nat.log2 (p / q) + 1) ≤ 2 ^ (24 + (Nat.log2 (p / q) - 23)) :=
    Nat.pow_le_pow_right (by omega) (by omega)
  calc p < 2 ^ (24 + (Nat.log2 (p / q) - 23)) * q := (Nat.div_lt_iff_lt_mul hq).mp (hlog.trans_le hpow)
    _ = 2 ^ 24 * (q * 2 ^ (Nat.log2 (p / q) - 23)) := by ring

/-- Above the least spacing a quotient is at least `2^23` units of its spacing. -/
theorem spacing_le {p q : Nat} (hk : 23 < Nat.log2 (p / q)) :
    2 ^ 23 ≤ p / (q * 2 ^ (Nat.log2 (p / q) - 23)) := by
  have hlog : 2 ^ Nat.log2 (p / q) ≤ p / q := Nat.log2_self_le (by rintro h; simp [h] at hk)
  rw [← Nat.div_div_eq_div_mul, Nat.le_div_iff_mul_le (by positivity), ← pow_add]
  rwa [show 23 + (Nat.log2 (p / q) - 23) = Nat.log2 (p / q) by omega]

/-- Rounding a greater magnitude gives no smaller one. -/
theorem rndMag_mono {p p' q : Nat} (hq : 0 < q) (h : p ≤ p') : rndMag p q ≤ rndMag p' q := by
  have hlog : Nat.log2 (p / q) ≤ Nat.log2 (p' / q) := by
    rw [Nat.log2_eq_log_two, Nat.log2_eq_log_two]
    exact Nat.log_mono_right (Nat.div_le_div_right h)
  have hk : Nat.log2 (p / q) - 23 ≤ Nat.log2 (p' / q) - 23 := Nat.sub_le_sub_right hlog 23
  unfold rndMag
  refine min_le_min_right _ ?_
  rcases hk.lt_or_eq with hlt | heq
  · have hlow : roundHalfEven p (q * 2 ^ (Nat.log2 (p / q) - 23)) ≤ 2 ^ 24 := roundHalfEven_le (lt_spacing p hq)
    have hhigh := (spacing_le (p := p') (q := q) (by omega)).trans (roundHalfEven_bounds p' _).1
    omega
  · rw [heq]
    exact Nat.add_le_add_left (roundHalfEven_mono _ h) _

theorem rndMag_le_infMag (p q : Nat) : rndMag p q ≤ infMag := min_le_right _ _

/-! ### Positive normal numbers -/

/-- A finite number of at least `2^-126`. -/
def posNormal (v : F32) : Bool := !signBit v && decide (2 ^ 23 ≤ magBits v) && decide (magBits v < infMag)

theorem posNormal_iff {v : F32} :
    posNormal v = true ↔ signBit v = false ∧ 2 ^ 23 ≤ magBits v ∧ magBits v < infMag := by
  simp [posNormal, and_assoc]

theorem signBit_eq (v : F32) : signBit v = decide (2 ^ 31 ≤ v.toNat) := by
  rw [signBit, ← BitVec.msb_eq_getLsbD_last v, BitVec.msb_eq_decide]

/-- A number with the sign bit clear is its magnitude bits. -/
theorem toNat_eq_magBits {v : F32} (h : signBit v = false) : v.toNat = magBits v := by
  rw [signBit_eq, decide_eq_false_iff_not] at h
  rw [magBits]
  omega

/-- The magnitude of a normal number, from its bits (R80). -/
theorem scaledMag_of_posNormal {v : F32} (h : posNormal v = true) :
    scaledMag v = (2 ^ 23 + magBits v % 2 ^ 23) * 2 ^ (magBits v / 2 ^ 23 - 1) := by
  obtain ⟨hs, hlo, hhi⟩ := posNormal_iff.mp h
  have hexp : expField v = magBits v / 2 ^ 23 := by
    rw [expField, toNat_eq_magBits hs, Nat.mod_eq_of_lt]
    unfold infMag at hhi
    omega
  have hfrac : fracField v = magBits v % 2 ^ 23 := by rw [fracField, toNat_eq_magBits hs]
  rw [scaledMag, hexp, hfrac, if_neg (by omega)]

theorem scaledMag_pos {v : F32} (h : posNormal v = true) : 0 < scaledMag v := by
  rw [scaledMag_of_posNormal h]
  positivity

/-- The magnitude orders as its bits do (R80). -/
theorem scaledMag_mono {a b : F32} (ha : posNormal a = true) (hb : posNormal b = true)
    (h : magBits a ≤ magBits b) : scaledMag a ≤ scaledMag b := by
  rw [scaledMag_of_posNormal ha, scaledMag_of_posNormal hb]
  have hexp : magBits a / 2 ^ 23 ≤ magBits b / 2 ^ 23 := Nat.div_le_div_right h
  have hnormal := (posNormal_iff.mp ha).2.1
  rcases hexp.lt_or_eq with hlt | heq
  · calc (2 ^ 23 + magBits a % 2 ^ 23) * 2 ^ (magBits a / 2 ^ 23 - 1)
        ≤ 2 ^ 24 * 2 ^ (magBits a / 2 ^ 23 - 1) := Nat.mul_le_mul_right _ (by omega)
      _ = 2 ^ 23 * 2 ^ (magBits a / 2 ^ 23 - 1 + 1) := by ring
      _ ≤ (2 ^ 23 + magBits b % 2 ^ 23) * 2 ^ (magBits b / 2 ^ 23 - 1) :=
        Nat.mul_le_mul (Nat.le_add_right _ _) (Nat.pow_le_pow_right (by omega) (by omega))
  · rw [heq]
    exact Nat.mul_le_mul_right _ (by omega)

/-- Between two normal numbers the order of R83 is that of the magnitude bits. -/
theorem within_posNormal_iff {lo hi v : F32} (hlo : posNormal lo = true) (hhi : posNormal hi = true) :
    within lo hi v = true ↔ posNormal v = true ∧ magBits lo ≤ magBits v ∧ magBits v ≤ magBits hi := by
  rw [posNormal_iff] at *
  obtain ⟨slo, nlo, flo⟩ := hlo
  obtain ⟨shi, nhi, fhi⟩ := hhi
  simp only [within, fle, isNaN, orderKey, slo, shi, Bool.and_eq_true, Bool.not_eq_true', decide_eq_true_eq,
    decide_eq_false_iff_not, Bool.false_eq_true, if_false]
  cases signBit v
  · simp only [Bool.false_eq_true, if_false, true_and]
    omega
  · simp only [if_true, reduceCtorEq, false_and, iff_false]
    omega

/-! ### Products and quotients of positive normal numbers -/

/-- The magnitude bits after a flush (R81). -/
def flushMag (m : Nat) : Nat := if m < 2 ^ 23 then 0 else m

theorem flushMag_mono {m n : Nat} (h : m ≤ n) : flushMag m ≤ flushMag n := by
  unfold flushMag
  split_ifs <;> omega

theorem toNat_withSign_false {m : Nat} (h : m ≤ infMag) : (withSign false m).toNat = m := by
  have hlt : m < 2 ^ 32 := h.trans_lt (by decide)
  simpa [withSign] using hlt

theorem signBit_withSign_false {m : Nat} (h : m ≤ infMag) : signBit (withSign false m) = false := by
  rw [signBit_eq, toNat_withSign_false h, decide_eq_false_iff_not, not_le]
  exact h.trans_lt (by decide)

/-- A positive result, rounded and flushed (R81). -/
theorem ftz_rnd (p q : Nat) : ftz (rnd false p q) = withSign false (flushMag (rndMag p q)) := by
  have hle := rndMag_le_infMag p q
  have hsign := signBit_withSign_false hle
  have hmag : magBits (withSign false (rndMag p q)) = rndMag p q := by
    rw [← toNat_eq_magBits hsign, toNat_withSign_false hle]
  simp only [ftz, rnd, isSubnormal, hmag, hsign, flushMag, decide_eq_true_eq]
  split_ifs with hsub hsmall hsmall
  · rfl
  · exact absurd hsub.2 hsmall
  · rw [show rndMag p q = 0 by omega]
  · rfl

/-- A rounded positive quotient lies between those of a smaller and a greater numerator (R81). -/
theorem within_ftz_rnd {p₁ p p₂ q : Nat} (hq : 0 < q) (h₁ : p₁ ≤ p) (h₂ : p ≤ p₂)
    (hlo : posNormal (ftz (rnd false p₁ q)) = true) (hhi : posNormal (ftz (rnd false p₂ q)) = true) :
    within (ftz (rnd false p₁ q)) (ftz (rnd false p₂ q)) (ftz (rnd false p q)) = true := by
  have hle : ∀ n, flushMag (rndMag n q) ≤ infMag := fun n =>
    (show flushMag (rndMag n q) ≤ rndMag n q by unfold flushMag; split_ifs <;> omega).trans (rndMag_le_infMag n q)
  have hmag : ∀ n, magBits (ftz (rnd false n q)) = flushMag (rndMag n q) := fun n => by
    rw [ftz_rnd, ← toNat_eq_magBits (signBit_withSign_false (hle n)), toNat_withSign_false (hle n)]
  have hlow : flushMag (rndMag p₁ q) ≤ flushMag (rndMag p q) := flushMag_mono (rndMag_mono hq h₁)
  have hhigh : flushMag (rndMag p q) ≤ flushMag (rndMag p₂ q) := flushMag_mono (rndMag_mono hq h₂)
  have hsign : signBit (ftz (rnd false p q)) = false := by rw [ftz_rnd]; exact signBit_withSign_false (hle p)
  have nlo := (posNormal_iff.mp hlo).2.1
  have fhi := (posNormal_iff.mp hhi).2.2
  rw [within_posNormal_iff hlo hhi, posNormal_iff]
  simp only [hmag] at *
  exact ⟨⟨hsign, by omega, by omega⟩, hlow, hhigh⟩

/-- What the operations test of an operand, for a normal number. -/
theorem posNormal_class {v : F32} (h : posNormal v = true) :
    isNaN v = false ∧ isInf v = false ∧ isZero v = false ∧ daz v = v ∧ signBit v = false := by
  obtain ⟨hs, hlo, hhi⟩ := posNormal_iff.mp h
  refine ⟨?_, ?_, ?_, ?_, hs⟩
  · simpa [isNaN] using hhi.le
  · simpa [isInf] using hhi.ne
  · simp only [isZero, decide_eq_false_iff_not]; omega
  · rw [daz, ftz, if_neg]; simp only [isSubnormal, decide_eq_true_eq]; omega

theorem fmul_of_posNormal {a b : F32} (ha : posNormal a = true) (hb : posNormal b = true) :
    fmul a b = ftz (rnd false (scaledMag a * scaledMag b) (2 ^ 149)) := by
  obtain ⟨na, ia, za, da, sa⟩ := posNormal_class ha
  obtain ⟨nb, ib, zb, db, sb⟩ := posNormal_class hb
  simp [fmul, mulCore, na, ia, za, da, sa, nb, ib, zb, db, sb]

theorem fdiv_of_posNormal {a b : F32} (ha : posNormal a = true) (hb : posNormal b = true) :
    fdiv a b = ftz (rnd false (scaledMag a * 2 ^ 149) (scaledMag b)) := by
  obtain ⟨na, ia, za, da, sa⟩ := posNormal_class ha
  obtain ⟨nb, ib, zb, db, sb⟩ := posNormal_class hb
  simp [fdiv, divCore, na, ia, za, da, sa, nb, ib, zb, db, sb]

/-- A product lies between the products of the bounds of its operands. -/
theorem within_fmul {a a' b b' x y : F32} (ha : posNormal a = true) (ha' : posNormal a' = true)
    (hb : posNormal b = true) (hb' : posNormal b' = true) (hlo : posNormal (fmul a b) = true)
    (hhi : posNormal (fmul a' b') = true) (hx : within a a' x = true) (hy : within b b' y = true) :
    within (fmul a b) (fmul a' b') (fmul x y) = true := by
  obtain ⟨px, lx, ux⟩ := (within_posNormal_iff ha ha').mp hx
  obtain ⟨py, ly, uy⟩ := (within_posNormal_iff hb hb').mp hy
  rw [fmul_of_posNormal ha hb] at *
  rw [fmul_of_posNormal ha' hb'] at *
  rw [fmul_of_posNormal px py]
  exact within_ftz_rnd (by positivity) (Nat.mul_le_mul (scaledMag_mono ha px lx) (scaledMag_mono hb py ly))
    (Nat.mul_le_mul (scaledMag_mono px ha' ux) (scaledMag_mono py hb' uy)) hlo hhi

/-- A quotient lies between the quotients of the bounds of its dividend. -/
theorem within_fdiv {a a' d x : F32} (ha : posNormal a = true) (ha' : posNormal a' = true)
    (hd : posNormal d = true) (hlo : posNormal (fdiv a d) = true) (hhi : posNormal (fdiv a' d) = true)
    (hx : within a a' x = true) : within (fdiv a d) (fdiv a' d) (fdiv x d) = true := by
  obtain ⟨px, lx, ux⟩ := (within_posNormal_iff ha ha').mp hx
  rw [fdiv_of_posNormal ha hd] at *
  rw [fdiv_of_posNormal ha' hd] at *
  rw [fdiv_of_posNormal px hd]
  exact within_ftz_rnd (scaledMag_pos hd) (Nat.mul_le_mul_right _ (scaledMag_mono ha px lx))
    (Nat.mul_le_mul_right _ (scaledMag_mono px ha' ux)) hlo hhi

/-! ### The nominal lengths (10_state.md R32; 43_decay_filter.md R125) -/

/-- Wider bounds (40_numerics.md R83). -/
theorem within_widen {lo lo' hi hi' v : F32} (hlo : fle lo' lo = true) (hhi : fle hi hi' = true)
    (h : within lo hi v = true) : within lo' hi' v = true := by
  simp only [within, fle, Bool.and_eq_true, Bool.not_eq_true', decide_eq_true_eq] at *
  obtain ⟨⟨⟨-, hv⟩, hlov⟩, -, hvhi⟩ := h
  exact ⟨⟨⟨hlo.1.1, hv⟩, hlo.2.trans hlov⟩, ⟨hv, hhi.1.2⟩, hvhi.trans hhi.2⟩

/-- A clamp leaves a value between its bounds (R84). -/
theorem fclamp_of_within {x lo hi : F32} (h : within lo hi x = true) : fclamp x lo hi = x := by
  simp only [within, fle, Bool.and_eq_true, Bool.not_eq_true', decide_eq_true_eq] at h
  obtain ⟨⟨⟨_, hx⟩, hlo⟩, _, hhi⟩ := h
  simp [fclamp, flt, hx, not_lt.mpr hlo, not_lt.mpr hhi]

theorem fne_self_of_within {x lo hi : F32} (h : within lo hi x = true) : fne x x = false := by
  simp only [within, fle, Bool.and_eq_true, Bool.not_eq_true', decide_eq_true_eq] at h
  simp [fne, feq, h.1.1.2]

/-- The shortest and the longest entry of `BASE48` (10_state.md R32). -/
theorem base48_within : ∀ (j : Fin 10) (i : Fin 8),
    within (i2f 193) (i2f 3847) (i2f (refCfg.base48[j][i])) = true := by decide +kernel

/-- `FSK` lies between its values at the ends of the range of `FS` (10_state.md R14). -/
theorem fsk_within {fs : F32} (h : within refCfg.fsMin refCfg.fsMax fs = true) :
    within (fdiv refCfg.fsMin refCfg.fsRef) (fdiv refCfg.fsMax refCfg.fsRef) (fdiv fs refCfg.fsRef) = true :=
  within_fdiv (by decide +kernel) (by decide +kernel) (by decide +kernel) (by decide +kernel) (by decide +kernel) h

/-- The shortest line at the least room and rate is longer than `D_MIN`, the longest at the greatest shorter than
`CAP_DL - 1`, and every nominal length lies between the two (R32, R125). -/
theorem rawLength_within {fs room : F32} (m : Mode) (i : Fin 8) (hfs : within refCfg.fsMin refCfg.fsMax fs = true)
    (hroom : legalParam 1 room = true) :
    within refCfg.dMin (maxDelayDl refCfg) (rawLength refCfg m (fdiv fs refCfg.fsRef) room i) = true := by
  have hscaled : within (fmul (i2f 193) refCfg.pmin[1]) (fmul (i2f 3847) refCfg.pmax[1])
      (fmul (i2f (refCfg.base48[modeIndex m][i])) room) = true :=
    within_fmul (by decide +kernel) (by decide +kernel) (by decide +kernel) (by decide +kernel) (by decide +kernel)
      (by decide +kernel) (base48_within _ i) hroom
  have hraw := within_fmul (by decide +kernel) (by decide +kernel) (by decide +kernel) (by decide +kernel)
    (by decide +kernel) (by decide +kernel) hscaled (fsk_within hfs)
  exact within_widen (by decide +kernel) (by decide +kernel) hraw

/-- Settles O59: every raw length lies between the clamp's bounds, so the clamp returns it. -/
theorem nominalLengthsNeverClamp : Obligations.NominalLengthsNeverClamp := by
  intro m fs room i hfs hroom
  have hraw := fun j => rawLength_within m j hfs hroom
  have hnominal : ∀ j, nominalLength refCfg m (fdiv fs refCfg.fsRef) room j =
      rawLength refCfg m (fdiv fs refCfg.fsRef) room j := fun j => fclamp_of_within (hraw j)
  constructor
  · rw [lengthClamped, Vector.any_eq_false]
    intro j hj
    simp [hnominal, fne_self_of_within (hraw _)]
  · rw [hnominal]
    exact hraw i

end Sys2Proof.Machine

/-! The port presents a command, and what the steps do to the delay memories (spec/20_memory.md R43, R44, R50;
spec/10_state.md R21). -/

namespace Sys2Proof.Machine

set_option Elab.async false

/-! ### The step at a presented word (20_memory.md R50, R53) -/

/-- The first of the waiting words is accepted and takes its whole effect. -/
theorem step_of_word {s : State} {cmd : CmdWord} {rest : List Input} (h : s.inputs = .word cmd :: rest) :
    step s = stepWord cmd { s with inputs := rest } := by
  simp only [step, nextInput, acceptInput, h, List.headD_cons, List.tail_cons]

/-- A word that decodes to a command has that command's effect (30_encoding.md R70). -/
theorem stepWord_of_decode {cmd : CmdWord} {i : Instr} (h : decode cmd = .ok i) (s : State) :
    stepWord cmd s = exec i s := by
  simp only [stepWord, h]

/-- Settles O7: the step takes the presented word, and the word is run as the command it decodes to. -/
theorem stepRunsDecodedCommand : Obligations.StepRunsDecodedCommand := by
  intro s cmd rest i hin hdec
  rw [step_of_word hin, stepWord_of_decode hdec]

/-! ### Properties of the sixteen delay lines

A step leaves a line as it is, clears it, rewinds it or writes one word at its head. A property that each of these
keeps is kept by every step. -/

/-- Every line of the network has `P` and every line of the diffusers has `Q`. -/
def LinesAll (P : Line 15 → Prop) (Q : Line 12 → Prop) (s : State) : Prop :=
  (∀ i : Fin 8, P s.dl[i]) ∧ ∀ (ch : Fin 2) (k : Fin 4), Q s.ap[ch][k]

/-- `P` and `Q` survive whatever a step does to a line: the clear (41_delay_line.md R104), the write of a sample
(44_fdn_core.md R140, 42_allpass_diffuser.md R111) and the return of the head under RST
(70_reset_and_hazards.md R220). -/
structure KeptByLineOps (c : Config) (P : Line 15 → Prop) (Q : Line 12 → Prop) : Prop where
  clear_dl : P clearLine
  clear_ap : Q clearLine
  write_dl : ∀ l v, P l → P (fdnWrite c l v)
  write_ap : ∀ l v, Q l → Q (lineWrite c.capAp l v)
  rewind_dl : ∀ l, P l → P (rewind l)
  rewind_ap : ∀ l, Q l → Q (rewind l)

section
variable {c : Config} {P : Line 15 → Prop} {Q : Line 12 → Prop} {s t : State}

/-- States with equal lines have the same properties of lines. -/
theorem LinesAll.of_eq (h : LinesAll P Q s) (hdl : t.dl = s.dl) (hap : t.ap = s.ap) : LinesAll P Q t := by
  unfold LinesAll
  rwa [hdl, hap]

/-- After ENGINECLEAR every line is the cleared line (47_cmd_lifecycle.md R174). -/
theorem KeptByLineOps.of_cleared (hk : KeptByLineOps c P Q) (hdl : t.dl = Vector.replicate 8 clearLine)
    (hap : t.ap = Vector.replicate 2 (Vector.replicate 4 clearLine)) : LinesAll P Q t := by
  unfold LinesAll
  rw [hdl, hap]
  exact ⟨fun i => by simpa using hk.clear_dl, fun ch k => by simpa using hk.clear_ap⟩

/-- RESET clears the lines (R172). -/
theorem resetCommandWith_linesAll (hk : KeptByLineOps c P Q) (s : State) : LinesAll P Q (resetCommandWith c s) :=
  hk.of_cleared rfl rfl

/-- A refused PREPARE leaves the lines, an accepted one clears them (R171). -/
theorem prepareWith_linesAll (hk : KeptByLineOps c P Q) (h : LinesAll P Q s) (rate block : Operand) :
    LinesAll P Q (prepareWith c rate block s) := by
  unfold prepareWith
  split
  · exact h
  · exact hk.of_cleared rfl rfl

/-- SETP leaves the lines (48_cmd_control.md R180). -/
theorem setpWith_linesAll (h : LinesAll P Q s) (idx : Idx) (v : Operand) : LinesAll P Q (setpWith c idx v s) := by
  by_cases hi : idx.toNat < 14
  · rw [setpWith_of_lt c hi]
    unfold setParam
    dsimp only
    split <;> exact h
  · rw [setpWith_of_not_lt c hi]
    exact h

/-- CONTROLLATCH clears the lines at a mode switch and else leaves them (49_cmd_process.md R191). -/
theorem controlLatch_linesAll (hk : KeptByLineOps c P Q) (h : LinesAll P Q s) : LinesAll P Q (controlLatch c s) := by
  by_cases hm : s.targets.modeT = s.active.mode
  · obtain ⟨hdl, hap, -⟩ := controlLatch_same_mode c hm
    exact h.of_eq hdl hap
  · obtain ⟨hdl, hap, -⟩ := controlLatch_mode_switch c hm
    exact hk.of_cleared hdl hap

/-- Steps P2 and P3 leave the lines (R190). -/
theorem smoothPhase_linesAll (h : LinesAll P Q s) : LinesAll P Q (smoothPhase c s) := by
  obtain ⟨-, -, -, -, -, -, hdl, hap, -⟩ := smoothPhase_spec c s
  exact h.of_eq hdl hap

/-- Step P6 writes one sample to every line of the network (R190; 44_fdn_core.md R140). -/
theorem samplePhase_dl (c : Config) (left right : Operand) (s : State) (i : Fin 8) :
    ∃ v, (samplePhase c left right s).dl[i] = fdnWrite c s.dl[i] v :=
  fdnStep_dl ..

/-- Step P5 writes one sample to every line of the diffusers (R190; 42_allpass_diffuser.md R112). -/
theorem samplePhase_ap (c : Config) (left right : Operand) (s : State) (ch : Fin 2) (k : Fin 4) :
    ∃ v, (samplePhase c left right s).ap[ch][k] = lineWrite c.capAp s.ap[ch][k] v :=
  match ch with
  | 0 => diffuse_lines ..
  | 1 => diffuse_lines ..

/-- Steps P4 to P7 write every line once (R190). -/
theorem samplePhase_linesAll (hk : KeptByLineOps c P Q) (h : LinesAll P Q s) (left right : Operand) :
    LinesAll P Q (samplePhase c left right s) := by
  obtain ⟨hdl, hap⟩ := h
  refine ⟨fun i => ?_, fun ch k => ?_⟩
  · obtain ⟨v, hv⟩ := samplePhase_dl c left right s i
    rw [hv]
    exact hk.write_dl _ v (hdl i)
  · obtain ⟨v, hv⟩ := samplePhase_ap c left right s ch k
    rw [hv]
    exact hk.write_ap _ v (hap ch k)

/-- PROCESS runs its phases one after another, or leaves the lines of an unprepared engine (R190). -/
theorem processWith_linesAll (hk : KeptByLineOps c P Q) (h : LinesAll P Q s) (left right : Operand) :
    LinesAll P Q (processWith c left right s) := by
  unfold processWith
  split
  · exact samplePhase_linesAll hk (smoothPhase_linesAll (controlLatch_linesAll hk h)) left right
  · exact h

/-- Every command keeps such a property of the lines. -/
theorem commandWith_linesAll (hk : KeptByLineOps c P Q) (h : LinesAll P Q s) (i : Instr) :
    LinesAll P Q (commandWith c i s) := by
  cases i with
  | nop | rdstat | setmode | setfrz | setcpx => exact h
  | prepare rate block => exact prepareWith_linesAll hk h rate block
  | reset => exact resetCommandWith_linesAll hk s
  | process left right => exact processWith_linesAll hk h left right
  | setp idx v => exact setpWith_linesAll h idx v

/-- RST rewinds every line and writes no word (70_reset_and_hazards.md R220). -/
theorem applyRst_linesAll (hk : KeptByLineOps c P Q) (h : LinesAll P Q s) : LinesAll P Q (applyRst c s) := by
  obtain ⟨hdl, hap⟩ := h
  refine ⟨fun i => ?_, fun ch k => ?_⟩
  · simpa [applyRst] using hk.rewind_dl _ (hdl i)
  · simpa [applyRst] using hk.rewind_ap _ (hap ch k)

/-- A property of the lines that every operation on a line keeps is kept by every step. -/
theorem step_linesAll (hk : KeptByLineOps refCfg P Q) (h : LinesAll P Q s) (hstep : step s = .next t) :
    LinesAll P Q t := by
  have haccept : LinesAll P Q (acceptInput s) := h
  exact step_gives hstep (commandWith_linesAll hk haccept) haccept (applyRst_linesAll hk haccept)

end

/-! ### The canonical form of the memories (20_memory.md R43, R44; log entry 8) -/

/-- The head of a network line addresses a word of the line: its 15 bits count to `CAP_DL` (10_state.md R21). -/
theorem head_lt_capDl (l : Line 15) : l.head.toNat < refCfg.capDl := l.head.isLt

/-- The head of a diffuser line addresses a word of the line: its 12 bits count to `CAP_AP` (R21). -/
theorem head_lt_capAp (l : Line 12) : l.head.toNat < refCfg.capAp := l.head.isLt

/-- No operation on a line leaves the canonical form: a write is at the head, which lies in the line, and a rewind
writes no word. -/
theorem canonical_keptByLineOps :
    KeptByLineOps refCfg (fun l => l.buf.wf refCfg.capDl = true) (fun l => l.buf.wf refCfg.capAp = true) where
  clear_dl := clearLine_wf _
  clear_ap := clearLine_wf _
  write_dl l v h := lineWrite_wf (feedbackClamp refCfg v) h (head_lt_capDl l)
  write_ap l v h := lineWrite_wf v h (head_lt_capAp l)
  rewind_dl _ h := h
  rewind_ap _ h := h

/-- Settles O33: the canonical form is kept by every operation on a line, and so by every step. -/
theorem stepKeepsCanonicalMemories : Obligations.StepKeepsCanonicalMemories := by
  intro s t hs hstep
  exact step_linesAll canonical_keptByLineOps hs hstep

end Sys2Proof.Machine

/-! The command words (spec/30_encoding.md): a word as the assembly of its fields, the words that carry a command,
and the decoder and the opcode map as two readings of them. -/

namespace Sys2Proof.Machine

set_option Elab.async false

/-! ### A word and its fields (R60) -/

section
variable (opc : BitVec 8) (idx : Idx) (rsv : BitVec 16) (a b : Operand) (cmd : CmdWord)
open BitVec

/-! A field is reached by leaving out the fields below it. -/

@[simp] theorem fieldB_wordOf : fieldB (wordOf opc idx rsv a b) = b := extractLsb'_append_eq_right

@[simp] theorem fieldA_wordOf : fieldA (wordOf opc idx rsv a b) = a :=
  (extractLsb'_append_eq_of_le (by decide)).trans extractLsb'_append_eq_right

@[simp] theorem fieldRsv_wordOf : fieldRsv (wordOf opc idx rsv a b) = rsv :=
  (extractLsb'_append_eq_of_le (by decide)).trans <| (extractLsb'_append_eq_of_le (by decide)).trans
    extractLsb'_append_eq_right

@[simp] theorem fieldIdx_wordOf : fieldIdx (wordOf opc idx rsv a b) = idx :=
  (extractLsb'_append_eq_of_le (by decide)).trans <| (extractLsb'_append_eq_of_le (by decide)).trans <|
    (extractLsb'_append_eq_of_le (by decide)).trans extractLsb'_append_eq_right

@[simp] theorem fieldOpc_wordOf : fieldOpc (wordOf opc idx rsv a b) = opc :=
  (extractLsb'_append_eq_of_le (by decide)).trans <| (extractLsb'_append_eq_of_le (by decide)).trans <|
    (extractLsb'_append_eq_of_le (by decide)).trans extractLsb'_append_eq_left

/-- The fields of a word lie side by side and leave no bit out. -/
theorem wordOf_fields :
    wordOf (fieldOpc cmd) (fieldIdx cmd) (fieldRsv cmd) (fieldA cmd) (fieldB cmd) = cmd := by
  have join (start low high : ℕ) : cmd.extractLsb' (start + low) high ++ cmd.extractLsb' start low =
      cmd.extractLsb' start (high + low) := extractLsb'_append_extractLsb'_eq_extractLsb' rfl
  calc
    wordOf (fieldOpc cmd) (fieldIdx cmd) (fieldRsv cmd) (fieldA cmd) (fieldB cmd)
      = cmd.extractLsb' 80 16 ++ fieldRsv cmd ++ fieldA cmd ++ fieldB cmd :=
        congrArg (· ++ fieldRsv cmd ++ fieldA cmd ++ fieldB cmd) (join 80 8 8)
    _ = cmd.extractLsb' 64 32 ++ fieldA cmd ++ fieldB cmd :=
        congrArg (· ++ fieldA cmd ++ fieldB cmd) (join 64 16 16)
    _ = cmd.extractLsb' 32 64 ++ fieldB cmd := congrArg (· ++ fieldB cmd) (join 32 32 32)
    _ = cmd.extractLsb' 0 96 := join 0 32 64
    _ = cmd := extractLsb'_eq_self

/-- Words are equal exactly when their fields are. -/
theorem wordOf_inj {opc' : BitVec 8} {idx' : Idx} {rsv' : BitVec 16} {a' b' : Operand} :
    wordOf opc idx rsv a b = wordOf opc' idx' rsv' a' b' ↔
      opc = opc' ∧ idx = idx' ∧ rsv = rsv' ∧ a = a' ∧ b = b' := by
  constructor
  · intro h
    exact ⟨by simpa using congrArg fieldOpc h, by simpa using congrArg fieldIdx h,
      by simpa using congrArg fieldRsv h, by simpa using congrArg fieldA h, by simpa using congrArg fieldB h⟩
  · rintro ⟨rfl, rfl, rfl, rfl, rfl⟩
    rfl

/-- Masking a word masks each of its fields. -/
theorem wordOf_and_wordOf (opc' : BitVec 8) (idx' : Idx) (rsv' : BitVec 16) (a' b' : Operand) :
    wordOf opc idx rsv a b &&& wordOf opc' idx' rsv' a' b' =
      wordOf (opc &&& opc') (idx &&& idx') (rsv &&& rsv') (a &&& a') (b &&& b') := by
  unfold wordOf
  rw [← and_append, ← and_append, ← and_append, ← and_append]

/-- The mask of the audio-side rows, and of the commands that ignore both operands, keeps the header (R61, R62). -/
theorem wordOf_and_header :
    wordOf opc idx rsv a b &&& 0xFFFFFFFF0000000000000000 = wordOf opc idx rsv 0#32 0#32 := by
  rw [show (0xFFFFFFFF0000000000000000 : CmdWord) = wordOf (allOnes 8) (allOnes 8) (allOnes 16) 0#32 0#32 by decide,
    wordOf_and_wordOf, and_allOnes, and_allOnes, and_allOnes, and_zero, and_zero]

/-- The mask of the control-side rows keeps the header but for `IDX` (R62). -/
theorem wordOf_and_header_but_idx :
    wordOf opc idx rsv a b &&& 0xFF00FFFF0000000000000000 = wordOf opc 0#8 rsv 0#32 0#32 := by
  rw [show (0xFF00FFFF0000000000000000 : CmdWord) = wordOf (allOnes 8) 0#8 (allOnes 16) 0#32 0#32 by decide,
    wordOf_and_wordOf, and_allOnes, and_zero, and_allOnes, and_zero, and_zero]

/-- The bits SETP uses are the header and `A` (R61). -/
theorem wordOf_and_header_and_a :
    wordOf opc idx rsv a b &&& 0xFFFFFFFFFFFFFFFF00000000 = wordOf opc idx rsv a 0#32 := by
  rw [show (0xFFFFFFFFFFFFFFFF00000000 : CmdWord) =
      wordOf (allOnes 8) (allOnes 8) (allOnes 16) (allOnes 32) 0#32 by decide, wordOf_and_wordOf,
    and_allOnes, and_allOnes, and_allOnes, and_allOnes, and_zero]

end

/-! ### The words that carry a command (R61) -/

/-- The header of a word: its operation, its index and a reserved field that is zero (R60). -/
def HasHeader (cmd : CmdWord) (opc : BitVec 8) (idx : Idx) : Prop :=
  fieldOpc cmd = opc ∧ fieldIdx cmd = idx ∧ fieldRsv cmd = 0

/-- The words that stand for a command: its header, and its operands in their places (R61, R62). -/
def Carries (cmd : CmdWord) : Instr → Prop
  | .nop => HasHeader cmd 0x00 0
  | .prepare rate block => HasHeader cmd 0x01 0 ∧ fieldA cmd = rate ∧ fieldB cmd = block
  | .reset => HasHeader cmd 0x02 0
  | .process left right => HasHeader cmd 0x03 0 ∧ fieldA cmd = left ∧ fieldB cmd = right
  | .rdstat => HasHeader cmd 0x04 0
  | .setp idx value => HasHeader cmd 0x10 idx ∧ idx.toNat ≤ 13 ∧ fieldA cmd = value
  | .setmode idx => HasHeader cmd 0x11 idx
  | .setfrz idx => HasHeader cmd 0x12 idx
  | .setcpx idx => HasHeader cmd 0x13 idx

theorem hasHeader_wordOf (opc : BitVec 8) (idx : Idx) (a b : Operand) : HasHeader (wordOf opc idx 0 a b) opc idx :=
  ⟨fieldOpc_wordOf .., fieldIdx_wordOf .., fieldRsv_wordOf ..⟩

/-- A word with a known header is assembled from it and the two operands. -/
theorem HasHeader.eq_wordOf {cmd : CmdWord} {opc : BitVec 8} {idx : Idx} (h : HasHeader cmd opc idx) :
    cmd = wordOf opc idx 0 (fieldA cmd) (fieldB cmd) := by
  obtain ⟨hopc, hidx, hrsv⟩ := h
  rw [← hopc, ← hidx, ← hrsv, wordOf_fields]

/-- The word of a well-formed command carries it (R62). -/
theorem carries_encode {i : Instr} (h : i.wellFormed = true) : Carries (encode i) i := by
  cases i with
  | nop | reset | rdstat | setmode | setfrz | setcpx => exact hasHeader_wordOf ..
  | prepare | process => exact ⟨hasHeader_wordOf .., fieldA_wordOf .., fieldB_wordOf ..⟩
  | setp => exact ⟨hasHeader_wordOf .., of_decide_eq_true h, fieldA_wordOf ..⟩

/-- A word that carries a command is the command's word but for the bits the command ignores (R61, R65). -/
theorem Carries.encode_eq {cmd : CmdWord} {i : Instr} (h : Carries cmd i) : encode i = cmd &&& usedBits i := by
  cases i with
  | nop | reset | rdstat | setmode | setfrz | setcpx =>
    rw [HasHeader.eq_wordOf h]
    exact (wordOf_and_header ..).symm
  | prepare | process =>
    obtain ⟨hhead, rfl, rfl⟩ := h
    exact hhead.eq_wordOf.symm.trans BitVec.and_allOnes.symm
  | setp =>
    obtain ⟨hhead, -, rfl⟩ := h
    conv_rhs => rw [hhead.eq_wordOf]
    exact (wordOf_and_header_and_a ..).symm

/-- The decoder answers the command a word carries (R70). -/
theorem Carries.decode_eq {cmd : CmdWord} {i : Instr} (h : Carries cmd i) : decode cmd = .ok i := by
  cases i with
  | nop | reset | rdstat | setmode | setfrz | setcpx =>
    obtain ⟨hopc, hidx, hrsv⟩ := h
    simp [decode, hopc, hidx, hrsv]
  | prepare | process =>
    obtain ⟨⟨hopc, hidx, hrsv⟩, rfl, rfl⟩ := h
    simp [decode, hopc, hidx, hrsv]
  | setp =>
    obtain ⟨⟨hopc, hidx, hrsv⟩, hle, rfl⟩ := h
    simp [decode, hopc, hidx, hrsv, hle]

/-- The operations of the audio side, whose index must be zero (R61, R64). -/
abbrev audioOps : List (BitVec 8) := [0x00#8, 0x01#8, 0x02#8, 0x03#8, 0x04#8]

/-- The decoder's test for the audio side (R70). -/
theorem mem_audioOps_iff (opc : BitVec 8) : opc ∈ audioOps ↔ opc.toNat ≤ 4 := by
  simp only [List.mem_cons, List.not_mem_nil, or_false]
  bv_omega

/-- The decoder refuses a word for each of the reasons of R64. -/
theorem decode_of_illegalFields {cmd : CmdWord} (h : illegalFields cmd) : ∃ e, decode cmd = .error e := by
  unfold illegalFields at h
  rw [mem_audioOps_iff] at h
  by_cases hrsv : fieldRsv cmd ≠ 0
  · exact ⟨_, if_pos hrsv⟩
  by_cases haudio : (fieldOpc cmd).toNat ≤ 4 ∧ fieldIdx cmd ≠ 0
  · exact ⟨_, (if_neg hrsv).trans (if_pos haudio)⟩
  obtain hne | hopc | hidx | ⟨hopc, hidx⟩ := h
  · exact absurd hne hrsv
  · simp only [List.mem_cons, List.not_mem_nil, or_false, not_or] at hopc
    refine ⟨.unassignedOpcode, (if_neg hrsv).trans <| (if_neg haudio).trans ?_⟩
    simp [hopc]
  · exact absurd hidx haudio
  · refine ⟨.noSuchParameter, (if_neg hrsv).trans <| (if_neg haudio).trans ?_⟩
    simp [hopc, Nat.not_le.2 hidx]

/-- Every word has a reason of R64 or carries a command. -/
theorem exists_carries_of_not_illegalFields {cmd : CmdWord} (h : ¬illegalFields cmd) : ∃ i, Carries cmd i := by
  simp only [illegalFields, not_or, not_and, not_not, not_le, ne_eq] at h
  obtain ⟨hrsv, hopc, haudio, hsetp⟩ := h
  have header {opc : BitVec 8} (h : fieldOpc cmd = opc) : HasHeader cmd opc (fieldIdx cmd) := ⟨h, rfl, hrsv⟩
  have audio {opc : BitVec 8} (h : fieldOpc cmd = opc) (hmem : opc ∈ audioOps) :
      HasHeader cmd opc 0 := ⟨h, haudio (h ▸ hmem), hrsv⟩
  simp only [List.mem_cons, List.not_mem_nil, or_false] at hopc
  obtain h | h | h | h | h | h | h | h | h := hopc
  · exact ⟨.nop, audio h (by decide)⟩
  · exact ⟨.prepare (fieldA cmd) (fieldB cmd), audio h (by decide), rfl, rfl⟩
  · exact ⟨.reset, audio h (by decide)⟩
  · exact ⟨.process (fieldA cmd) (fieldB cmd), audio h (by decide), rfl, rfl⟩
  · exact ⟨.rdstat, audio h (by decide)⟩
  · exact ⟨.setp (fieldIdx cmd) (fieldA cmd), header h, Nat.le_of_lt_succ (hsetp h), rfl⟩
  · exact ⟨.setmode (fieldIdx cmd), header h⟩
  · exact ⟨.setfrz (fieldIdx cmd), header h⟩
  · exact ⟨.setcpx (fieldIdx cmd), header h⟩

/-- The decoder answers a command exactly on the words that carry it (R70). -/
theorem decode_eq_ok_iff {cmd : CmdWord} {i : Instr} : decode cmd = .ok i ↔ Carries cmd i := by
  refine ⟨fun hdec => ?_, Carries.decode_eq⟩
  by_cases hill : illegalFields cmd
  · obtain ⟨e, herr⟩ := decode_of_illegalFields hill
    rw [herr] at hdec
    cases hdec
  · obtain ⟨j, hj⟩ := exists_carries_of_not_illegalFields hill
    rw [hj.decode_eq] at hdec
    cases hdec
    exact hj

/-- The decoder refuses exactly the words of R64. -/
theorem decode_eq_error_iff {cmd : CmdWord} : (∃ e, decode cmd = .error e) ↔ illegalFields cmd := by
  refine ⟨fun ⟨e, herr⟩ => by_contra fun hlegal => ?_, decode_of_illegalFields⟩
  obtain ⟨i, hi⟩ := exists_carries_of_not_illegalFields hlegal
  rw [hi.decode_eq] at herr
  cases herr

/-- Settles O1: the word of a well-formed command carries it, and the decoder answers what a word carries. -/
theorem encodeDecodeRoundTrip : Obligations.EncodeDecodeRoundTrip :=
  fun _ hwf => (carries_encode hwf).decode_eq

/-- Settles O2: the decoded word carries the command. -/
theorem reencodingKeepsUsedBits : Obligations.ReencodingKeepsUsedBits :=
  fun _ _ hdec => ⟨decode_wellFormed hdec, (decode_eq_ok_iff.1 hdec).encode_eq⟩

/-! ### The rows of the opcode map (R62) -/

/-- The bound 255 of a row without an extra condition excludes no index. -/
theorem idx_toNat_le (idx : Idx) : idx.toNat ≤ 255 := Nat.le_of_lt_succ idx.isLt

/-- A row of the audio side is selected by its operation at index zero. -/
theorem selectsRow_audio_iff {cmd : CmdWord} (opc : BitVec 8) :
    selectsRow cmd ⟨0xFFFFFFFF0000000000000000, wordOf opc 0 0 0 0, 255⟩ ↔ HasHeader cmd opc 0 := by
  unfold selectsRow HasHeader
  conv_lhs => rw [← wordOf_fields cmd]
  rw [wordOf_and_header, wordOf_inj]
  simp [idx_toNat_le]

/-- A row of the control side is selected by its operation, up to the greatest index it admits. -/
theorem selectsRow_control_iff {cmd : CmdWord} (opc : BitVec 8) (maxIdx : Nat) :
    selectsRow cmd ⟨0xFF00FFFF0000000000000000, wordOf opc 0 0 0 0, maxIdx⟩ ↔
      HasHeader cmd opc (fieldIdx cmd) ∧ (fieldIdx cmd).toNat ≤ maxIdx := by
  unfold selectsRow HasHeader
  conv_lhs => rw [← wordOf_fields cmd]
  rw [wordOf_and_header_but_idx, wordOf_inj]
  simp

/-- A word that carries a command selects the command's row. -/
theorem Carries.selectsRow {cmd : CmdWord} {i : Instr} (h : Carries cmd i) :
    selectsRow cmd opcodeMap[rowNumber i] := by
  cases i with
  | nop | reset | rdstat => exact (selectsRow_audio_iff _).2 h
  | prepare | process =>
    obtain ⟨hhead, -⟩ := h
    exact (selectsRow_audio_iff _).2 hhead
  | setp =>
    obtain ⟨⟨hopc, rfl, hrsv⟩, hle, -⟩ := h
    exact (selectsRow_control_iff _ _).2 ⟨⟨hopc, rfl, hrsv⟩, hle⟩
  | setmode | setfrz | setcpx =>
    obtain ⟨hopc, rfl, hrsv⟩ := h
    exact (selectsRow_control_iff _ _).2 ⟨⟨hopc, rfl, hrsv⟩, idx_toNat_le _⟩

/-- A word that selects a row carries a command of that row. -/
theorem exists_carries_of_selectsRow {cmd : CmdWord} {r : Fin 9} (h : selectsRow cmd opcodeMap[r]) :
    ∃ i, Carries cmd i ∧ rowNumber i = r := by
  match r with
  | 0 => exact ⟨.nop, (selectsRow_audio_iff 0x00).1 h, rfl⟩
  | 1 => exact ⟨.prepare _ _, ⟨(selectsRow_audio_iff 0x01).1 h, rfl, rfl⟩, rfl⟩
  | 2 => exact ⟨.reset, (selectsRow_audio_iff 0x02).1 h, rfl⟩
  | 3 => exact ⟨.process _ _, ⟨(selectsRow_audio_iff 0x03).1 h, rfl, rfl⟩, rfl⟩
  | 4 => exact ⟨.rdstat, (selectsRow_audio_iff 0x04).1 h, rfl⟩
  | 5 =>
    obtain ⟨hhead, hle⟩ := (selectsRow_control_iff 0x10 13).1 h
    exact ⟨.setp _ _, ⟨hhead, hle, rfl⟩, rfl⟩
  | 6 => exact ⟨.setmode _, ((selectsRow_control_iff 0x11 255).1 h).1, rfl⟩
  | 7 => exact ⟨.setfrz _, ((selectsRow_control_iff 0x12 255).1 h).1, rfl⟩
  | 8 => exact ⟨.setcpx _, ((selectsRow_control_iff 0x13 255).1 h).1, rfl⟩

/-- The opcode map and the decoder read the same command from a word. -/
theorem selectsRow_iff_decode {cmd : CmdWord} {r : Fin 9} :
    selectsRow cmd opcodeMap[r] ↔ ∃ i, decode cmd = .ok i ∧ rowNumber i = r := by
  simp only [decode_eq_ok_iff]
  refine ⟨exists_carries_of_selectsRow, ?_⟩
  rintro ⟨i, hi, rfl⟩
  exact hi.selectsRow

/-- Settles O3: the row is that of the decoded command, of which there is at most one; and a command that the decoder
answers has a row. -/
theorem decodeSelectsTableRow : Obligations.DecodeSelectsTableRow := by
  intro cmd r
  refine ⟨selectsRow_iff_decode, fun hr r' hr' => ?_, fun hnone => ?_⟩
  · obtain ⟨i, hi, rfl⟩ := selectsRow_iff_decode.1 hr
    obtain ⟨j, hj, rfl⟩ := selectsRow_iff_decode.1 hr'
    rw [hi] at hj
    cases hj
    rfl
  · cases hdec : decode cmd with
    | ok i => exact absurd (selectsRow_iff_decode.2 ⟨i, hdec, rfl⟩) (hnone (rowNumber i))
    | error e => exact ⟨e, rfl⟩

/-! ### Illegal words and the decode procedure (R64, R70) -/

/-- A word the decoder refuses has the effect of an illegal word (R64). -/
theorem stepWord_of_error {cmd : CmdWord} {e : Illegal} (h : decode cmd = .error e) (s : State) :
    stepWord cmd s = .next (illegalWord s) := by
  simp only [stepWord, h]

/-- Settles O5: the decoder refuses the words of R64, and a step on a refused word is `illegalWord`. -/
theorem illegalWordsSetOnlySill : Obligations.IllegalWordsSetOnlySill := by
  refine fun cmd => ⟨decode_eq_error_iff, fun s rest hin hill => ?_⟩
  obtain ⟨e, herr⟩ := decode_of_illegalFields hill
  rw [step_of_word hin, stepWord_of_error herr]
  rfl

/-- Settles O4: each branch of R70 gives a reason of R64 or a command that the assembled word carries. -/
theorem decodeFollowsProcedure : Obligations.DecodeFollowsProcedure := by
  intro opc idx rsv a b
  have refused (h : illegalFields (wordOf opc idx rsv a b)) := decode_of_illegalFields h
  simp only [illegalFields, fieldOpc_wordOf, fieldIdx_wordOf, fieldRsv_wordOf] at refused
  refine ite_prop_iff_and.2 ⟨fun hrsv => refused (.inl hrsv), fun hrsv => ?_⟩
  obtain rfl : rsv = 0 := not_not.1 hrsv
  refine ite_prop_iff_and.2 ⟨fun haudio => refused (.inr (.inr (.inl haudio))), fun haudio => ?_⟩
  have control {code : BitVec 8} (h : opc = code) : HasHeader (wordOf opc idx 0 a b) code idx :=
    h ▸ hasHeader_wordOf opc idx a b
  have audio {code : BitVec 8} (h : opc = code) (hmem : code ∈ audioOps) :
      HasHeader (wordOf opc idx 0 a b) code 0 := by
    obtain rfl : idx = 0 := by_contra fun hidx => haudio ⟨h ▸ hmem, hidx⟩
    exact control h
  have hA := fieldA_wordOf opc idx 0 a b
  have hB := fieldB_wordOf opc idx 0 a b
  refine ite_prop_iff_and.2 ⟨fun h => Carries.decode_eq (audio h (by decide)), fun h00 => ?_⟩
  refine ite_prop_iff_and.2 ⟨fun h => Carries.decode_eq ⟨audio h (by decide), hA, hB⟩, fun h01 => ?_⟩
  refine ite_prop_iff_and.2 ⟨fun h => Carries.decode_eq (audio h (by decide)), fun h02 => ?_⟩
  refine ite_prop_iff_and.2 ⟨fun h => Carries.decode_eq ⟨audio h (by decide), hA, hB⟩, fun h03 => ?_⟩
  refine ite_prop_iff_and.2 ⟨fun h => Carries.decode_eq (audio h (by decide)), fun h04 => ?_⟩
  refine ite_prop_iff_and.2 ⟨fun h => ite_prop_iff_and.2 ⟨fun hle => ?_, fun hgt => ?_⟩, fun h10 => ?_⟩
  · exact Carries.decode_eq ⟨control h, hle, hA⟩
  · exact refused (.inr (.inr (.inr ⟨h, Nat.not_le.1 hgt⟩)))
  refine ite_prop_iff_and.2 ⟨fun h => Carries.decode_eq (control h), fun h11 => ?_⟩
  refine ite_prop_iff_and.2 ⟨fun h => Carries.decode_eq (control h), fun h12 => ?_⟩
  refine ite_prop_iff_and.2 ⟨fun h => Carries.decode_eq (control h), fun h13 => ?_⟩
  refine refused (.inr (.inl ?_))
  simp only [List.mem_cons, List.not_mem_nil, or_false, not_or]
  exact ⟨h00, h01, h02, h03, h04, h10, h11, h12, h13⟩

end Sys2Proof.Machine

/-! A binary32 number as its sign and its magnitude bits, and the results of the operations: none is subnormal
(spec/40_numerics.md R80 to R85). -/

namespace Sys2Proof.Machine

set_option Elab.async false

/-! ### A number as its sign and its magnitude bits (40_numerics.md R80) -/

theorem toNat_eq (v : F32) : v.toNat = magBits v + if signBit v then 2 ^ 31 else 0 := by
  have hv := v.isLt
  simp only [signBit_eq, magBits, decide_eq_true_eq]
  split <;> omega

/-- A number is its sign and its magnitude bits. -/
theorem withSign_signBit_magBits (v : F32) : withSign (signBit v) (magBits v) = v := by
  rw [withSign, ← toNat_eq, BitVec.ofNat_toNat, BitVec.setWidth_eq]

theorem eq_of_signBit_magBits {v w : F32} (hs : signBit v = signBit w) (hm : magBits v = magBits w) : v = w := by
  rw [← withSign_signBit_magBits v, hs, hm, withSign_signBit_magBits]

theorem toNat_withSign (s : Bool) {m : Nat} (h : m < 2 ^ 31) :
    (withSign s m).toNat = m + if s then 2 ^ 31 else 0 := by
  rw [withSign, BitVec.toNat_ofNat, Nat.mod_eq_of_lt]
  split <;> omega

theorem signBit_withSign (s : Bool) {m : Nat} (h : m < 2 ^ 31) : signBit (withSign s m) = s := by
  rw [signBit_eq, toNat_withSign s h]
  cases s
  · simpa using h
  · simp

theorem magBits_withSign (s : Bool) {m : Nat} (h : m < 2 ^ 31) : magBits (withSign s m) = m := by
  rw [magBits, toNat_withSign s h]
  split <;> omega

@[simp] theorem signBit_withSign_zero (s : Bool) : signBit (withSign s 0) = s := signBit_withSign s (by decide)
@[simp] theorem magBits_withSign_zero (s : Bool) : magBits (withSign s 0) = 0 := magBits_withSign s (by decide)
@[simp] theorem magBits_withSign_infMag (s : Bool) : magBits (withSign s infMag) = infMag :=
  magBits_withSign s (by decide)

theorem rndMag_lt (p q : Nat) : rndMag p q < 2 ^ 31 := (rndMag_le_infMag p q).trans_lt (by decide)

/-- Rounding keeps the sign it is given (R81). -/
@[simp] theorem signBit_rnd (s : Bool) (p q : Nat) : signBit (rnd s p q) = s := signBit_withSign s (rndMag_lt p q)
@[simp] theorem magBits_rnd (s : Bool) (p q : Nat) : magBits (rnd s p q) = rndMag p q :=
  magBits_withSign s (rndMag_lt p q)

/-- `fneg` inverts the sign (R82). -/
@[simp] theorem signBit_fneg (v : F32) : signBit (fneg v) = !signBit v := by
  simp [signBit, fneg]

/-- `fneg` leaves the magnitude bits (R82). -/
@[simp] theorem magBits_fneg (v : F32) : magBits (fneg v) = magBits v := by
  have hlow (w : F32) : magBits w = (w.setWidth 31).toNat := (BitVec.toNat_setWidth ..).symm
  rw [hlow, hlow, fneg, BitVec.setWidth_xor]
  simp

/-- A flush keeps the sign (R81). -/
@[simp] theorem signBit_daz (v : F32) : signBit (daz v) = signBit v := by
  unfold daz ftz
  split <;> simp

/-- A flush of the magnitude bits (R81). -/
@[simp] theorem magBits_ftz (v : F32) : magBits (ftz v) = flushMag (magBits v) := by
  unfold ftz flushMag isSubnormal
  split_ifs <;> simp_all
  omega

/-! ### The kinds of numbers depend on the magnitude bits, and a flush and `fneg` keep them (R80 to R82) -/

theorem isNaN_iff {v : F32} : isNaN v = true ↔ infMag < magBits v := decide_eq_true_iff
theorem isInf_iff {v : F32} : isInf v = true ↔ magBits v = infMag := decide_eq_true_iff
theorem isFinite_iff {v : F32} : isFinite v = true ↔ magBits v < infMag := decide_eq_true_iff
theorem isZero_iff {v : F32} : isZero v = true ↔ magBits v = 0 := decide_eq_true_iff
theorem isSubnormal_iff {v : F32} : isSubnormal v = true ↔ 0 < magBits v ∧ magBits v < 2 ^ 23 := decide_eq_true_iff
theorem isSubnormal_eq_false_iff {v : F32} : isSubnormal v = false ↔ magBits v = 0 ∨ 2 ^ 23 ≤ magBits v := by
  rw [← Bool.not_eq_true, isSubnormal_iff]
  omega

/-- A number that is finite is neither infinite nor a NaN. -/
theorem isFinite_class {v : F32} (h : isFinite v = true) : isNaN v = false ∧ isInf v = false := by
  rw [isFinite_iff] at h
  exact ⟨decide_eq_false h.not_gt, decide_eq_false h.ne⟩

/-- An infinity is neither finite nor a NaN nor a zero. -/
theorem isInf_class {v : F32} (h : isInf v = true) : isNaN v = false ∧ isFinite v = false ∧ isZero v = false := by
  rw [isInf_iff] at h
  simp [isNaN, isFinite, isZero, h, infMag]

/-- A flush moves no magnitude across that of the infinities. -/
theorem flushMag_compare_infMag (m : Nat) :
    (flushMag m < infMag ↔ m < infMag) ∧ (flushMag m = infMag ↔ m = infMag) ∧ (infMag < flushMag m ↔ infMag < m) := by
  unfold flushMag
  split_ifs with h
  · have hm : m < infMag := h.trans (by decide)
    have h0 : 0 < infMag := by decide
    exact ⟨iff_of_true h0 hm, iff_of_false h0.ne hm.ne, iff_of_false (by omega) (by omega)⟩
  · exact ⟨Iff.rfl, Iff.rfl, Iff.rfl⟩

@[simp] theorem magBits_daz (v : F32) : magBits (daz v) = flushMag (magBits v) := magBits_ftz v

@[simp] theorem isNaN_daz (v : F32) : isNaN (daz v) = isNaN v := by
  rw [Bool.eq_iff_iff, isNaN_iff, isNaN_iff, magBits_daz, (flushMag_compare_infMag _).2.2]

@[simp] theorem isInf_daz (v : F32) : isInf (daz v) = isInf v := by
  rw [Bool.eq_iff_iff, isInf_iff, isInf_iff, magBits_daz, (flushMag_compare_infMag _).2.1]

@[simp] theorem isFinite_daz (v : F32) : isFinite (daz v) = isFinite v := by
  rw [Bool.eq_iff_iff, isFinite_iff, isFinite_iff, magBits_daz, (flushMag_compare_infMag _).1]

@[simp] theorem isInf_fneg (v : F32) : isInf (fneg v) = isInf v := by rw [isInf, magBits_fneg, isInf]
@[simp] theorem isFinite_fneg (v : F32) : isFinite (fneg v) = isFinite v := by rw [isFinite, magBits_fneg, isFinite]

/-- Only a subnormal number is changed by a flush (R81). -/
theorem daz_of_not_isSubnormal {v : F32} (h : isSubnormal v = false) : daz v = v := by simp [daz, ftz, h]

/-- A flush leaves an infinity. -/
theorem daz_of_isInf {v : F32} (h : isInf v = true) : daz v = v := by
  rw [isInf_iff] at h
  exact daz_of_not_isSubnormal (by simp [isSubnormal, h, infMag])

/-- The value that stands for "a NaN" is one (R82; log entry 4). -/
@[simp] theorem isNaN_someNaN (op : Nat) (a b : F32) : isNaN (someNaN op a b) = true := by
  unfold someNaN
  dsimp only
  split
  · assumption
  · decide

/-! ### No operation gives a subnormal number (R81) -/

@[simp] theorem isSubnormal_ftz (v : F32) : isSubnormal (ftz v) = false := by
  rw [isSubnormal_eq_false_iff, magBits_ftz, flushMag]
  split_ifs <;> omega

@[simp] theorem isSubnormal_daz (v : F32) : isSubnormal (daz v) = false := isSubnormal_ftz v

theorem isSubnormal_of_isNaN {v : F32} (h : isNaN v = true) : isSubnormal v = false := by
  rw [isNaN_iff, infMag] at h
  exact isSubnormal_eq_false_iff.mpr (.inr (by omega))

theorem isSubnormal_of_isInf {v : F32} (h : isInf v = true) : isSubnormal v = false := by
  rw [isInf_iff, infMag] at h
  exact isSubnormal_eq_false_iff.mpr (.inr (by omega))

@[simp] theorem isSubnormal_someNaN (op : Nat) (a b : F32) : isSubnormal (someNaN op a b) = false :=
  isSubnormal_of_isNaN (isNaN_someNaN op a b)

@[simp] theorem isSubnormal_withSign_zero (s : Bool) : isSubnormal (withSign s 0) = false := by
  simp [isSubnormal]

@[simp] theorem isSubnormal_withSign_infMag (s : Bool) : isSubnormal (withSign s infMag) = false :=
  isSubnormal_of_isInf (isInf_iff.mpr (magBits_withSign_infMag s))

theorem isSubnormal_addCore (op : Nat) (a b : F32) : isSubnormal (addCore op a b) = false := by
  unfold addCore
  dsimp only
  split_ifs with ha hop hb
  · exact isSubnormal_someNaN op a b
  · exact isSubnormal_of_isInf ha
  · exact isSubnormal_of_isInf hb
  · exact isSubnormal_withSign_zero _
  · exact isSubnormal_ftz _

theorem isSubnormal_mulCore (a b : F32) : isSubnormal (mulCore a b) = false := by
  unfold mulCore
  dsimp only
  split_ifs <;> simp

theorem isSubnormal_divCore (a b : F32) : isSubnormal (divCore a b) = false := by
  unfold divCore
  dsimp only
  split_ifs <;> simp

@[simp] theorem isSubnormal_fadd (a b : F32) : isSubnormal (fadd a b) = false := by
  unfold fadd
  split
  · exact isSubnormal_someNaN 0 a b
  · exact isSubnormal_addCore 0 _ _

@[simp] theorem isSubnormal_fsub (a b : F32) : isSubnormal (fsub a b) = false := by
  unfold fsub
  split
  · exact isSubnormal_someNaN 1 a b
  · exact isSubnormal_addCore 1 _ _

@[simp] theorem isSubnormal_fmul (a b : F32) : isSubnormal (fmul a b) = false := by
  unfold fmul
  split
  · exact isSubnormal_someNaN 2 a b
  · exact isSubnormal_mulCore _ _

@[simp] theorem isSubnormal_fdiv (a b : F32) : isSubnormal (fdiv a b) = false := by
  unfold fdiv
  split
  · exact isSubnormal_someNaN 3 a b
  · exact isSubnormal_divCore _ _

@[simp] theorem isSubnormal_fzero : isSubnormal fzero = false := by decide

/-- A clamp gives its operand, a bound or `+0.0` (R84). -/
theorem isSubnormal_fclamp {x lo hi : F32} (hx : isSubnormal x = false) (hlo : isSubnormal lo = false)
    (hhi : isSubnormal hi = false) : isSubnormal (fclamp x lo hi) = false := by
  unfold fclamp
  split_ifs
  · exact isSubnormal_fzero
  · exact hlo
  · exact hhi
  · exact hx

/-- A maximum is one of its operands (R83). -/
theorem isSubnormal_fmax {a b : F32} (ha : isSubnormal a = false) (hb : isSubnormal b = false) :
    isSubnormal (fmax a b) = false := by
  unfold fmax
  split
  · exact ha
  · exact hb

end Sys2Proof.Machine

/-! No state element and no response is ever subnormal (spec/40_numerics.md R81), from the groups of state elements to
the step. -/

namespace Sys2Proof.Machine

set_option Elab.async false

/-- A non-zero integer is at least 1 in magnitude, so its conversion is no subnormal number (R85). -/
@[simp] theorem isSubnormal_i2f (n : Int) : isSubnormal (i2f n) = false := by
  unfold i2f
  split_ifs with hn
  · exact isSubnormal_fzero
  · have hone : 2 ^ 23 ≤ rndMag (2 ^ 149) 1 := by decide +kernel
    have hle : 2 ^ 149 ≤ n.natAbs * 2 ^ 149 := Nat.le_mul_of_pos_left _ (Int.natAbs_pos.mpr hn)
    rw [isSubnormal_eq_false_iff, magBits_rnd]
    exact .inr (hone.trans (rndMag_mono Nat.one_pos hle))

/-- The exponentials of the reference `NUM` flush their results (R86, R87). -/
theorem isSubnormal_expScaled (c : Nat) (x : F32) : isSubnormal (expScaled c x) = false := by
  unfold expScaled expRounded
  dsimp only
  split_ifs <;> simp

@[simp] theorem isSubnormal_refNum_pow10 (x : F32) : isSubnormal (refCfg.num.pow10 x) = false :=
  isSubnormal_expScaled _ x

/-! ### The groups of state elements -/

/-- A vector of numbers none of which is subnormal. -/
def allFlushed {n : Nat} (v : Vector F32 n) : Bool := v.all fun x => !isSubnormal x

theorem allFlushed_iff {n : Nat} {v : Vector F32 n} :
    allFlushed v = true ↔ ∀ (i : Nat) (h : i < n), isSubnormal v[i] = false := by
  simp [allFlushed, Vector.all_eq_true]

theorem smootherFlushed_iff {m : Smoother} :
    smootherFlushed m = true ↔ isSubnormal m.cur = false ∧ isSubnormal m.tgt = false ∧ isSubnormal m.inc = false := by
  simp [smootherFlushed, and_assoc]

/-- RECOMPUTE writes no subnormal number, whatever it reads (43_decay_filter.md R125). -/
theorem coeffsFlushed_coeffsOf (mode : Mode) (fs fsk : F32) (cur : Vector F32 14) :
    coeffsFlushed (coeffsOf refCfg mode fs fsk cur) = true := by
  have hrt : isSubnormal refCfg.rt60Min = false := by decide
  have hlen (i : Fin 8) : isSubnormal (nominalLength refCfg mode fsk cur[1] i) = false :=
    isSubnormal_fclamp (isSubnormal_fmul _ _) (by decide) (isSubnormal_i2f _)
  simp [coeffsFlushed, coeffsOf, bandTimes, decayGain, crossoverCoeff, peaking, isSubnormal_fmax, hrt, hlen,
    Vector.all_eq_true]

/-- DERIVEFS at a rate that is not subnormal (47_cmd_lifecycle.md R175). -/
theorem setupFlushed_deriveFs {fs : F32} (h : isSubnormal fs = false) (p : Bool) (blk : BitVec 32) :
    (!isSubnormal (deriveFs refCfg p fs blk).fs && !isSubnormal (deriveFs refCfg p fs blk).fsk &&
      !isSubnormal (deriveFs refCfg p fs blk).fsm) = true := by
  simp [deriveFs, h]

/-! #### Smoothers (46_param_smoothing.md R160 to R164) -/

theorem smootherFlushed_snapped {t : F32} (h : isSubnormal t = false) : smootherFlushed (snapped t) = true := by
  simp [smootherFlushed_iff, snapped, h]

theorem smootherFlushed_retarget {ramp : BitVec 16} {t : F32} {m : Smoother} (ht : isSubnormal t = false)
    (hm : smootherFlushed m = true) : smootherFlushed (retarget ramp t m) = true := by
  unfold retarget
  split_ifs
  · obtain ⟨hcur, -, -⟩ := smootherFlushed_iff.mp hm
    exact smootherFlushed_iff.mpr ⟨hcur, ht, isSubnormal_fdiv _ _⟩
  · exact hm

theorem smootherFlushed_advance {m : Smoother} (hm : smootherFlushed m = true) :
    smootherFlushed (advance m) = true := by
  obtain ⟨hcur, htgt, hinc⟩ := smootherFlushed_iff.mp hm
  unfold advance
  split_ifs
  · refine smootherFlushed_iff.mpr ⟨?_, htgt, hinc⟩
    dsimp only
    split_ifs
    · exact htgt
    · exact isSubnormal_fsub _ _
  · exact hm

theorem smoothersFlushed_snapAll {pt : Vector F32 14} (h : allFlushed pt = true) :
    (snapAll pt).all smootherFlushed = true := by
  rw [allFlushed_iff] at h
  rw [Vector.all_eq_true]
  intro k hk
  rw [snapAll, Vector.getElem_map]
  exact smootherFlushed_snapped (h k hk)

theorem smoothersFlushed_smoothStep {ramp : BitVec 16} {pt : Vector F32 14} {sm : Vector Smoother 14}
    (hpt : allFlushed pt = true) (hsm : sm.all smootherFlushed = true) :
    (smoothStep ramp pt sm).all smootherFlushed = true := by
  rw [allFlushed_iff] at hpt
  rw [Vector.all_eq_true] at hsm ⊢
  intro k hk
  rw [smoothStep, retargetAll, Vector.getElem_map, Vector.getElem_zipWith]
  exact smootherFlushed_advance (smootherFlushed_retarget (hpt k hk) (hsm k hk))

/-! #### Delay lines (41_delay_line.md R101, R104) -/

theorem allWords_memWrite {p : F32 → Bool} {m : Memory} (h : allWords p m = true) (a : Nat) {v : F32}
    (hv : p v = true) : allWords p (memWrite m a v) = true := by
  rw [allWords, List.all_eq_true] at h ⊢
  intro e he
  obtain hold | rfl := mem_memWrite he
  · exact h e hold
  · exact hv

/-- No word of a line is subnormal. -/
def lineFlushed {w : Nat} (l : Line w) : Prop := allWords (fun v => !isSubnormal v) l.buf = true

theorem linesFlushed_iff {w n : Nat} {ls : Vector (Line w) n} :
    linesFlushed ls = true ↔ ∀ (i : Nat) (h : i < n), lineFlushed ls[i] := by
  rw [linesFlushed, Vector.all_eq_true]
  rfl

theorem lineFlushed_lineWrite {w : Nat} {l : Line w} (h : lineFlushed l) (cap : Nat) {v : F32}
    (hv : isSubnormal v = false) : lineFlushed (lineWrite cap l v) :=
  allWords_memWrite h _ (by simp [hv])

/-- The words a network line takes are clamped to the feedback limit (44_fdn_core.md R140). -/
theorem lineFlushed_fdnWrite {l : Line 15} (h : lineFlushed l) {v : F32} (hv : isSubnormal v = false) :
    lineFlushed (fdnWrite refCfg l v) :=
  lineFlushed_lineWrite h _ (isSubnormal_fclamp hv (by decide) (by decide))

theorem linesFlushed_clear (w n : Nat) : linesFlushed (Vector.replicate n (clearLine (w := w))) = true := by
  rw [linesFlushed_iff]
  intro i hi
  rw [Vector.getElem_replicate]
  rfl

theorem linesFlushed_rewind {w n : Nat} {ls : Vector (Line w) n} (h : linesFlushed ls = true) :
    linesFlushed (ls.map rewind) = true := by
  rw [linesFlushed_iff] at h ⊢
  intro i hi
  rw [Vector.getElem_map]
  exact h i hi

theorem apFlushed_clear : (Vector.replicate 2 (Vector.replicate 4 (clearLine (w := 12)))).all linesFlushed = true := by
  simp [linesFlushed_clear]

/-! #### Filters and phases after a clear (43_decay_filter.md R129, 47_cmd_lifecycle.md R174) -/

theorem filtersFlushed_clear : clearFilters.all filterFlushed = true := by
  simp [clearFilters, clearFilter, filterFlushed]

theorem allFlushed_clearModulation :
    allFlushed (clearModulation refCfg).pha = true ∧ allFlushed (clearModulation refCfg).phb = true := by
  decide +kernel

/-! #### One sample (49_cmd_process.md R190) -/

/-- A diffuser chain writes sums (42_allpass_diffuser.md R111). -/
theorem linesFlushed_diffuse {lines : Vector (Line 12) 4} (h : linesFlushed lines = true) (c : Config) (g apd lfo : F32)
    (lens : Vector (BitVec 12) 4) (x0 : F32) : linesFlushed (diffuse c g apd lfo lens lines x0).lines = true := by
  rw [linesFlushed_iff] at h ⊢
  intro k hk
  rw [diffuse, Vector.getElem_ofFn]
  exact lineFlushed_lineWrite (h k hk) _ (isSubnormal_fadd _ _)

/-- The network writes products or sums, clamped (44_fdn_core.md R138 to R140). -/
theorem isSubnormal_inject_hadamard (c : Config) (frz : Bool) (f : Vector F32 8) (uL uR : F32) (i : Fin 8) :
    isSubnormal (inject c frz i (hadamard c f)[i] uL uR) = false := by
  unfold inject
  split_ifs
  · simp [hadamard]
  · exact isSubnormal_fadd _ _

theorem linesFlushed_fdnStep {dl : Vector (Line 15) 8} (h : linesFlushed dl = true) (frz : Bool) (k : Coeffs)
    (filters : Vector SlotFilter 8) (uL uR depthS : F32) (mods : Vector F32 8) :
    linesFlushed (fdnStep refCfg frz k filters dl uL uR depthS mods).dl = true := by
  rw [linesFlushed_iff] at h ⊢
  intro i hi
  rw [fdnStep, Vector.getElem_zipWith, fdnSums, Vector.getElem_ofFn]
  exact lineFlushed_fdnWrite (h i hi) (isSubnormal_inject_hadamard ..)

/-- The filters keep their state in freeze and else store sums and differences (43_decay_filter.md R126, R128). -/
theorem filtersFlushed_fdnStep {filters : Vector SlotFilter 8} (h : filters.all filterFlushed = true) (c : Config)
    (frz : Bool) (k : Coeffs) (dl : Vector (Line 15) 8) (uL uR depthS : F32) (mods : Vector F32 8) :
    (fdnStep c frz k filters dl uL uR depthS mods).filters.all filterFlushed = true := by
  cases frz with
  | true => exact h
  | false => simp [fdnStep, fdnDecays, decay, onePole, filterFlushed]

/-- A phase is a sum, or such a sum less 1.0 (45_lfo_modulation.md R151). -/
theorem isSubnormal_phaseNext (rate ratio fs ph : F32) : isSubnormal (phaseNext rate ratio fs ph) = false := by
  unfold phaseNext
  dsimp only
  split_ifs
  · exact isSubnormal_fsub _ _
  · exact isSubnormal_fadd _ _

theorem allFlushed_lfoAdvance (c : Config) (rate fs : F32) (m : Modulation) :
    allFlushed (lfoAdvance c rate fs m).pha = true ∧ allFlushed (lfoAdvance c rate fs m).phb = true := by
  simp [allFlushed, lfoAdvance, isSubnormal_phaseNext]

/-! ### Commands and steps -/

/-- The target and configuration registers, from which a reload derives every other number. -/
def RegistersFlushed (s : State) : Prop :=
  allFlushed s.targets.pt = true ∧
    (!isSubnormal s.setup.fs && !isSubnormal s.setup.fsk && !isSubnormal s.setup.fsm) = true

/-- After ENGINECLEAR, SNAP and RECOMPUTE every other number is a constant, a target or a coefficient
(47_cmd_lifecycle.md R171, R172, R174). -/
theorem noSubnormals_restart {s : State} (h : RegistersFlushed s) (hrsp : responseFlushed s.rsp = true) :
    NoSubnormals (recompute refCfg (snap (engineClear refCfg s))) := by
  obtain ⟨hpt, hset⟩ := h
  exact ⟨hpt, hset, smoothersFlushed_snapAll hpt, coeffsFlushed_coeffsOf _ _ _ _, filtersFlushed_clear,
    allFlushed_clearModulation.1, allFlushed_clearModulation.2, linesFlushed_clear 15 8, apFlushed_clear, hrsp⟩

theorem NoSubnormals.noResponse {s : State} (h : NoSubnormals s) : NoSubnormals (noResponse s) := by
  obtain ⟨hpt, hset, hsm, hk, hf, hpha, hphb, hdl, hap, -⟩ := h
  exact ⟨hpt, hset, hsm, hk, hf, hpha, hphb, hdl, hap, rfl⟩

theorem NoSubnormals.emit {s : State} (h : NoSubnormals s) {v : Response} (hv : responseFlushed (some v) = true) :
    NoSubnormals (emit v s) := by
  obtain ⟨hpt, hset, hsm, hk, hf, hpha, hphb, hdl, hap, -⟩ := h
  exact ⟨hpt, hset, hsm, hk, hf, hpha, hphb, hdl, hap, hv⟩

/-- A refused PREPARE writes no number, an accepted one a rate clamped between two constants (R171). -/
theorem prepareWith_noSubnormals {s : State} (h : NoSubnormals s) (rate block : Operand) :
    NoSubnormals (prepareWith refCfg rate block s) := by
  have hrate : isSubnormal (prepareRate refCfg rate) = false :=
    isSubnormal_fclamp (isSubnormal_daz rate) (by decide) (by decide)
  unfold prepareWith
  split
  · exact NoSubnormals.noResponse (s := prepareFail s) h
  · obtain ⟨hpt, -, -, -, -, -, -, -, -, hrsp⟩ := h
    exact NoSubnormals.noResponse (noSubnormals_restart ⟨hpt, setupFlushed_deriveFs hrate true block⟩ hrsp)

/-! #### The control commands (48_cmd_control.md R180 to R183) -/

theorem allFlushed_set {n : Nat} {v : Vector F32 n} (h : allFlushed v = true) {k : Nat} (hk : k < n) {x : F32}
    (hx : isSubnormal x = false) : allFlushed (v.set k x) = true := by
  rw [allFlushed_iff] at h ⊢
  intro i hi
  rw [Vector.getElem_set]
  split_ifs
  · exact hx
  · exact h i hi

/-- The ranges and the presets hold no subnormal number (10_state.md R31, R32). -/
theorem isSubnormal_range : ∀ k : Fin 14, isSubnormal refCfg.pmin[k] = false ∧ isSubnormal refCfg.pmax[k] = false := by
  decide +kernel

theorem isSubnormal_preset : ∀ j : Fin 10,
    isSubnormal refCfg.preset[j].xlo = false ∧ isSubnormal refCfg.preset[j].xhi = false ∧
      isSubnormal refCfg.preset[j].modrate = false ∧ isSubnormal refCfg.preset[j].moddepth = false ∧
      isSubnormal refCfg.preset[j].diffusion = false := by decide +kernel

/-- SETP stores a flushed and clamped operand (R180). -/
theorem setpWith_noSubnormals {s : State} (h : NoSubnormals s) (idx : Idx) (value : Operand) :
    NoSubnormals (setpWith refCfg idx value s) := by
  by_cases hidx : idx.toNat < 14
  · rw [setpWith_of_lt refCfg hidx, setParam]
    dsimp only
    split
    · exact h.noResponse
    · obtain ⟨hmin, hmax⟩ := isSubnormal_range ⟨idx.toNat, hidx⟩
      obtain ⟨hpt, hrest⟩ := h.noResponse
      exact ⟨allFlushed_set hpt hidx (isSubnormal_fclamp (isSubnormal_daz value) hmin hmax), hrest⟩
  · rw [setpWith_of_not_lt refCfg hidx]
    exact h.noResponse

/-- SETMODE stores values of the preset table (R181). -/
theorem setModeWith_noSubnormals {s : State} (h : NoSubnormals s) (idx : Idx) :
    NoSubnormals (setModeWith refCfg idx s) := by
  obtain ⟨hlo, hhi, hrate, hdepth, hdiff⟩ := isSubnormal_preset (modeIndex (modeOfIdx idx))
  obtain ⟨hpt, hrest⟩ := h.noResponse
  have hpt := allFlushed_set hpt (k := 6) (by decide) hlo
  have hpt := allFlushed_set hpt (k := 7) (by decide) hhi
  have hpt := allFlushed_set hpt (k := 8) (by decide) hrate
  have hpt := allFlushed_set hpt (k := 9) (by decide) hdepth
  exact ⟨allFlushed_set hpt (k := 10) (by decide) hdiff, hrest⟩

/-! #### PROCESS (49_cmd_process.md R190, R191) -/

theorem modeSwitch_noSubnormals {s : State} (h : NoSubnormals s) : NoSubnormals (modeSwitch refCfg s) := by
  unfold modeSwitch
  split
  · exact h
  · obtain ⟨hpt, hset, -, -, -, -, -, -, -, hrsp⟩ := h
    exact noSubnormals_restart ⟨hpt, hset⟩ hrsp

theorem freezeToggle_noSubnormals {s : State} (h : NoSubnormals s) : NoSubnormals (freezeToggle s) := by
  unfold freezeToggle
  split
  · exact h
  · obtain ⟨hpt, hset, hsm, hk, -, hrest⟩ := h
    exact ⟨hpt, hset, hsm, hk, filtersFlushed_clear, hrest⟩

theorem controlLatch_noSubnormals {s : State} (h : NoSubnormals s) : NoSubnormals (controlLatch refCfg s) :=
  freezeToggle_noSubnormals (modeSwitch_noSubnormals h)

theorem smoothPhase_noSubnormals {s : State} (h : NoSubnormals s) : NoSubnormals (smoothPhase refCfg s) := by
  obtain ⟨hpt, hset, hsm, hk, hrest⟩ := h
  have hsm' := smoothersFlushed_smoothStep (ramp := s.setup.ramp) hpt hsm
  unfold smoothPhase
  dsimp only
  split
  · exact ⟨hpt, hset, hsm', coeffsFlushed_coeffsOf _ _ _ _, hrest⟩
  · exact ⟨hpt, hset, hsm', hk, hrest⟩

theorem samplePhase_noSubnormals {s : State} (h : NoSubnormals s) (left right : Operand) :
    NoSubnormals (samplePhase refCfg left right s) := by
  obtain ⟨hpt, hset, hsm, hk, hf, -, -, hdl, hap, -⟩ := h
  rw [Vector.all_eq_true] at hap
  obtain ⟨hpha, hphb⟩ := allFlushed_lfoAdvance refCfg s.smoothers[8].cur s.setup.fs s.modulation
  refine ⟨hpt, hset, hsm, hk, ?_, hpha, hphb, ?_, ?_, ?_⟩
  · simp only [samplePhase]
    exact filtersFlushed_fdnStep hf ..
  · exact linesFlushed_fdnStep hdl ..
  · have hleft := linesFlushed_diffuse (hap 0 (by decide))
    have hright := linesFlushed_diffuse (hap 1 (by decide))
    simp [samplePhase, diffuseChannel, hleft, hright]
  · simp [samplePhase, responseFlushed, fdnStep]

theorem processWith_noSubnormals {s : State} (h : NoSubnormals s) (left right : Operand) :
    NoSubnormals (processWith refCfg left right s) := by
  unfold processWith
  split
  · exact samplePhase_noSubnormals (smoothPhase_noSubnormals (controlLatch_noSubnormals h)) left right
  · exact h.emit (by decide)

/-! #### Every step -/

theorem commandWith_noSubnormals {s : State} (h : NoSubnormals s) (i : Instr) :
    NoSubnormals (commandWith refCfg i s) := by
  cases i with
  | nop | setfrz | setcpx => exact h.noResponse
  | prepare rate block => exact prepareWith_noSubnormals h rate block
  | reset =>
    obtain ⟨hpt, hset, -, -, -, -, -, -, -, hrsp⟩ := h
    exact NoSubnormals.noResponse (noSubnormals_restart (s := latchControls s) ⟨hpt, hset⟩ hrsp)
  | process left right => exact processWith_noSubnormals h left right
  | rdstat => exact h.emit rfl
  | setp idx value => exact setpWith_noSubnormals h idx value
  | setmode idx => exact setModeWith_noSubnormals h idx

/-- RST gives the reset values and keeps the delay words (70_reset_and_hazards.md R220). -/
theorem applyRst_noSubnormals {s : State} (h : NoSubnormals s) : NoSubnormals (applyRst refCfg s) := by
  obtain ⟨hpt, hset, hsm, hk, hf, hpha, hphb, -, -, hrsp⟩ := reset_noSubnormals
  obtain ⟨-, -, -, -, -, -, -, hdl, hap, -⟩ := h
  rw [Vector.all_eq_true] at hap
  refine ⟨hpt, hset, hsm, hk, hf, hpha, hphb, linesFlushed_rewind hdl, ?_, hrsp⟩
  rw [Vector.all_eq_true]
  intro ch hch
  rw [applyRst, Vector.getElem_map]
  exact linesFlushed_rewind (hap ch hch)

/-- Settles O40: every number a step stores or answers is the result of an operation, which is flushed, a constant,
or a number that was stored before. -/
theorem stepKeepsNoSubnormals : Obligations.StepKeepsNoSubnormals := by
  intro s t hs hstep
  have haccept : NoSubnormals (acceptInput s) := hs
  exact step_gives hstep (commandWith_noSubnormals haccept) haccept.noResponse (applyRst_noSubnormals haccept)

end Sys2Proof.Machine

/-! The operations on NaN operands, infinities and zero divisors (spec/40_numerics.md R82). -/

namespace Sys2Proof.Machine

set_option Elab.async false

/-! ### The operations on numbers that are not NaN (40_numerics.md R82) -/

section
variable {a b : F32}

theorem isNaN_operations (h : isNaN a = true ∨ isNaN b = true) :
    isNaN (fadd a b) = true ∧ isNaN (fsub a b) = true ∧ isNaN (fmul a b) = true ∧ isNaN (fdiv a b) = true := by
  have hor : (isNaN a || isNaN b) = true := by simpa using h
  simp [fadd, fsub, fmul, fdiv, hor]

theorem fadd_eq_addCore (ha : isNaN a = false) (hb : isNaN b = false) : fadd a b = addCore 0 (daz a) (daz b) := by
  simp [fadd, ha, hb]

theorem fsub_eq_addCore (ha : isNaN a = false) (hb : isNaN b = false) :
    fsub a b = addCore 1 (daz a) (fneg (daz b)) := by
  simp [fsub, ha, hb]

theorem fmul_eq_mulCore (ha : isNaN a = false) (hb : isNaN b = false) : fmul a b = mulCore (daz a) (daz b) := by
  simp [fmul, ha, hb]

theorem fdiv_eq_divCore (ha : isNaN a = false) (hb : isNaN b = false) : fdiv a b = divCore (daz a) (daz b) := by
  simp [fdiv, ha, hb]

/-! #### Sums with an infinity -/

/-- An infinity takes up every number but the infinity of the other sign. -/
theorem addCore_of_isInf_left (op : Nat) (ha : isInf a = true) (h : isInf b = false ∨ signBit a = signBit b) :
    addCore op a b = a := by
  obtain hb | hs := h
  · simp [addCore, ha, hb]
  · simp [addCore, ha, hs]

theorem addCore_of_isInf_right (op : Nat) (ha : isInf a = false) (hb : isInf b = true) : addCore op a b = b := by
  simp [addCore, ha, hb]

/-- The sum of the two infinities is invalid. -/
theorem isNaN_addCore (op : Nat) (ha : isInf a = true) (hb : isInf b = true) (h : signBit a ≠ signBit b) :
    isNaN (addCore op a b) = true := by
  simp [addCore, ha, hb, h]

/-! #### Products and quotients with an infinity or a zero -/

theorem mulCore_of_isInf (h : isInf a = true ∨ isInf b = true) :
    if isZero a || isZero b then isNaN (mulCore a b) = true
    else mulCore a b = withSign (signBit a != signBit b) infMag := by
  have hor : (isInf a || isInf b) = true := by simpa using h
  unfold mulCore
  split_ifs <;> simp_all

theorem divCore_of_isInf_left (ha : isInf a = true) (hb : isInf b = false) :
    divCore a b = withSign (signBit a != signBit b) infMag := by
  simp [divCore, ha, hb]

theorem divCore_of_isInf_right (ha : isInf a = false) (hb : isInf b = true) :
    divCore a b = withSign (signBit a != signBit b) 0 := by
  simp [divCore, ha, hb]

theorem isNaN_divCore_of_isInf (ha : isInf a = true) (hb : isInf b = true) : isNaN (divCore a b) = true := by
  simp [divCore, ha, hb]

/-- Zero over zero is invalid, another finite number over zero is an infinity. -/
theorem divCore_of_isZero_right (ha : isInf a = false) (hinf : isInf b = false) (hb : isZero b = true) :
    if isZero a then isNaN (divCore a b) = true else divCore a b = withSign (signBit a != signBit b) infMag := by
  unfold divCore
  split_ifs <;> simp_all

end

/-- The infinity and the zero of a sign, in bits (R80). -/
theorem withSign_infMag_eq (s : Bool) :
    withSign s infMag = (if s then 0x80000000#32 else 0x00000000#32) ||| 0x7F800000#32 := by
  cases s <;> rfl

theorem withSign_zero_eq (s : Bool) : withSign s 0 = if s then 0x80000000#32 else 0x00000000#32 := by
  cases s <;> rfl

/-- A zero is finite. -/
theorem isFinite_of_isZero {v : F32} (h : isZero v = true) : isFinite v = true := by
  rw [isZero_iff] at h
  exact isFinite_iff.mpr (h ▸ by decide)

/-- Settles O54, kind of operands by kind of operands. -/
theorem arithmeticSpecialCases : Obligations.ArithmeticSpecialCases := by
  intro a b sign
  have hsign : sign = withSign (signBit a != signBit b) 0 := (withSign_zero_eq _).symm
  have hinf : sign ||| 0x7F800000#32 = withSign (signBit a != signBit b) infMag := (withSign_infMag_eq _).symm
  rw [hinf, hsign]
  refine ⟨isNaN_operations, fun ha hb => ?_, fun ha hb => ?_, fun ha hb => ?_, fun ha hb => ?_, signBit_fneg a,
    magBits_fneg a⟩
  · obtain ⟨na, -, za⟩ := isInf_class ha
    obtain ⟨nb, -, zb⟩ := isInf_class hb
    have hb' : isInf (fneg b) = true := by simpa using hb
    rw [fadd_eq_addCore na nb, fsub_eq_addCore na nb, fmul_eq_mulCore na nb, fdiv_eq_divCore na nb, daz_of_isInf ha,
      daz_of_isInf hb]
    refine ⟨?_, by simpa [za, zb] using mulCore_of_isInf (b := b) (.inl ha), isNaN_divCore_of_isInf ha hb⟩
    split_ifs with hs
    · exact ⟨addCore_of_isInf_left 0 ha (.inr hs), isNaN_addCore 1 ha hb' (by simp [hs])⟩
    · exact ⟨isNaN_addCore 0 ha hb hs, addCore_of_isInf_left 1 ha (.inr (by simpa [Bool.eq_not] using hs))⟩
  · obtain ⟨na, -, za⟩ := isInf_class ha
    obtain ⟨nb, ib⟩ := isFinite_class hb
    rw [fadd_eq_addCore na nb, fsub_eq_addCore na nb, fmul_eq_mulCore na nb, fdiv_eq_divCore na nb, daz_of_isInf ha]
    exact ⟨addCore_of_isInf_left 0 ha (.inl (by simpa using ib)), addCore_of_isInf_left 1 ha (.inl (by simpa using ib)),
      by simpa using divCore_of_isInf_left ha (b := daz b) (by simpa using ib),
      by simpa [za] using mulCore_of_isInf (b := daz b) (.inl ha)⟩
  · obtain ⟨na, ia⟩ := isFinite_class ha
    obtain ⟨nb, -, zb⟩ := isInf_class hb
    rw [fadd_eq_addCore na nb, fsub_eq_addCore na nb, fmul_eq_mulCore na nb, fdiv_eq_divCore na nb, daz_of_isInf hb]
    exact ⟨addCore_of_isInf_right 0 (by simpa using ia) hb,
      addCore_of_isInf_right 1 (by simpa using ia) (by simpa using hb),
      by simpa using divCore_of_isInf_right (a := daz a) (by simpa using ia) hb,
      by simpa [zb] using mulCore_of_isInf (a := daz a) (.inr hb)⟩
  · obtain ⟨na, ia⟩ := isFinite_class ha
    obtain ⟨nb, ib⟩ := isFinite_class (isFinite_of_isZero hb)
    rw [isNaN_daz] at nb
    rw [fdiv_eq_divCore na nb]
    simpa using divCore_of_isZero_right (a := daz a) (by simpa using ia) ib hb

end Sys2Proof.Machine

/-! The values of numbers, and the comparisons (spec/40_numerics.md R80, R83). -/

namespace Sys2Proof.Machine

set_option Elab.async false

/-! ### The value of the magnitude bits (40_numerics.md R80) -/

/-- The magnitude, in units of `2^-149`, that magnitude bits stand for: below `2^23` themselves, and from there on
`2^23` steps of each power of two. -/
def magValue (m : Nat) : Nat := if m < 2 ^ 23 then m else (2 ^ 23 + m % 2 ^ 23) * 2 ^ (m / 2 ^ 23 - 1)

theorem expField_eq (v : F32) : expField v = magBits v / 2 ^ 23 := by
  unfold expField magBits
  omega

theorem fracField_eq (v : F32) : fracField v = magBits v % 2 ^ 23 := by
  unfold fracField magBits
  omega

theorem scaledMag_eq (v : F32) : scaledMag v = magValue (magBits v) := by
  rw [scaledMag, magValue, expField_eq, fracField_eq]
  by_cases h : magBits v < 2 ^ 23
  · rw [if_pos h, if_pos (Nat.div_eq_of_lt h), Nat.mod_eq_of_lt h]
  · rw [if_neg h, if_neg (by omega)]

@[simp] theorem magValue_zero : magValue 0 = 0 := rfl

/-- The `n`-th multiple of the spacing `2^k`, for the multiples that have this spacing and the first that has the
next one (R81). -/
theorem magValue_spacing {k n : Nat} (hk : k = 0 ∨ 2 ^ 23 ≤ n) (hn : n ≤ 2 ^ 24) :
    magValue (k * 2 ^ 23 + n) = n * 2 ^ k := by
  unfold magValue
  split_ifs with hlow
  · obtain rfl : k = 0 := by omega
    omega
  · obtain hlt | rfl := hn.lt_or_eq
    · rw [show (k * 2 ^ 23 + n) / 2 ^ 23 - 1 = k by omega, show 2 ^ 23 + (k * 2 ^ 23 + n) % 2 ^ 23 = n by omega]
    · rw [show (k * 2 ^ 23 + 2 ^ 24) / 2 ^ 23 - 1 = k + 1 by omega,
        show 2 ^ 23 + (k * 2 ^ 23 + 2 ^ 24) % 2 ^ 23 = 2 ^ 23 by omega]
      ring

/-- Magnitude bits are `k * 2^23 + n` with `n` below the next power of two. -/
theorem exists_spacing (m : Nat) : ∃ k n, m = k * 2 ^ 23 + n ∧ (k = 0 ∨ 2 ^ 23 ≤ n) ∧ n < 2 ^ 24 :=
  ⟨m / 2 ^ 23 - 1, m - (m / 2 ^ 23 - 1) * 2 ^ 23, by omega, by omega, by omega⟩

/-- The magnitude orders as its bits do (R80). -/
theorem magValue_strictMono : StrictMono magValue := by
  refine strictMono_nat_of_lt_succ fun m => ?_
  obtain ⟨k, n, rfl, hk, hn⟩ := exists_spacing m
  rw [Nat.add_assoc, magValue_spacing hk hn.le, magValue_spacing (hk.imp_right fun h => by omega) (by omega)]
  exact Nat.mul_lt_mul_of_pos_right (Nat.lt_succ_self n) (by positivity)

theorem scaledMag_eq_zero_iff {v : F32} : scaledMag v = 0 ↔ magBits v = 0 := by
  rw [scaledMag_eq]
  exact magValue_strictMono.injective.eq_iff' magValue_zero

/-- A signed magnitude: the common shape of `scaled` and `orderKey`. -/
def signedMag (s : Bool) (n : Nat) : Int := if s then -(n : Int) else n

theorem scaled_eq (v : F32) : scaled v = signedMag (signBit v) (magValue (magBits v)) := by
  rw [← scaledMag_eq]
  rfl

theorem orderKey_eq (v : F32) : orderKey v = signedMag (signBit v) (magBits v) := rfl

/-- A function that orders magnitudes and fixes 0 orders signed magnitudes. -/
theorem signedMag_lt_iff {f : Nat → Nat} (hf : StrictMono f) (h0 : f 0 = 0) (s t : Bool) (m n : Nat) :
    signedMag s (f m) < signedMag t (f n) ↔ signedMag s m < signedMag t n := by
  have hlt := hf.lt_iff_lt (a := m) (b := n)
  have hgt := hf.lt_iff_lt (a := n) (b := m)
  have hm := hf.lt_iff_lt (a := 0) (b := m)
  have hn := hf.lt_iff_lt (a := 0) (b := n)
  unfold signedMag
  cases s <;> cases t <;> simp only [if_true, Bool.false_eq_true, if_false] <;> omega

/-- Numbers order as their values do (R83). -/
theorem orderKey_lt_iff (a b : F32) : orderKey a < orderKey b ↔ valueOf a < valueOf b := by
  rw [valueOf, valueOf, div_lt_div_iff_of_pos_right (by positivity), Int.cast_lt, scaled_eq, scaled_eq,
    signedMag_lt_iff magValue_strictMono magValue_zero, orderKey_eq, orderKey_eq]

/-! ### The comparisons (40_numerics.md R83) -/

section
variable {a b : F32}

theorem flt_iff (ha : isNaN a = false) (hb : isNaN b = false) : flt a b = true ↔ orderKey a < orderKey b := by
  simp [flt, ha, hb]

theorem fle_iff (ha : isNaN a = false) (hb : isNaN b = false) : fle a b = true ↔ orderKey a ≤ orderKey b := by
  simp [fle, ha, hb]

theorem feq_iff (ha : isNaN a = false) (hb : isNaN b = false) : feq a b = true ↔ orderKey a = orderKey b := by
  simp [feq, ha, hb]

theorem comparisons_of_isFinite (ha : isFinite a = true) (hb : isFinite b = true) :
    (flt a b = true ↔ valueOf a < valueOf b) ∧ (fle a b = true ↔ valueOf a ≤ valueOf b) ∧
      (feq a b = true ↔ valueOf a = valueOf b) := by
  obtain ⟨na, -⟩ := isFinite_class ha
  obtain ⟨nb, -⟩ := isFinite_class hb
  have hab := orderKey_lt_iff a b
  have hba := orderKey_lt_iff b a
  rw [flt_iff na nb, fle_iff na nb, feq_iff na nb, le_antisymm_iff, le_antisymm_iff]
  simp only [← not_lt, hab, hba, and_self]

/-- The key of a finite number lies between those of the infinities. -/
theorem orderKey_of_isFinite (h : isFinite a = true) : -(infMag : Int) < orderKey a ∧ orderKey a < infMag := by
  rw [isFinite_iff] at h
  rw [orderKey]
  split_ifs <;> omega

/-- An infinity lies beyond every finite number of its side. -/
theorem comparisons_isFinite_isInf (ha : isFinite a = true) (hb : isInf b = true) :
    (flt a b = true ↔ signBit b = false) ∧ flt b a = !flt a b ∧ feq a b = false ∧ feq b a = false := by
  obtain ⟨na, -⟩ := isFinite_class ha
  obtain ⟨nb, -, -⟩ := isInf_class hb
  obtain ⟨hlow, hhigh⟩ := orderKey_of_isFinite ha
  rw [isInf_iff] at hb
  have hkey : orderKey b = if signBit b then -(infMag : Int) else infMag := by rw [orderKey, hb]
  have hlt : orderKey a < orderKey b ↔ signBit b = false := by
    rw [hkey]
    cases signBit b <;> simp <;> omega
  have hgt : orderKey b < orderKey a ↔ signBit b = true := by
    rw [hkey]
    cases signBit b <;> simp <;> omega
  have hne : orderKey a ≠ orderKey b := by
    cases hs : signBit b
    · exact (hlt.mpr hs).ne
    · exact (hgt.mpr hs).ne'
  refine ⟨(flt_iff na nb).trans hlt, ?_, ?_, ?_⟩
  · rw [Bool.eq_iff_iff, Bool.not_eq_true', ← Bool.not_eq_true, flt_iff na nb, flt_iff nb na, hlt, hgt]
    simp
  · rw [← Bool.not_eq_true, feq_iff na nb]
    exact hne
  · rw [← Bool.not_eq_true, feq_iff nb na]
    exact hne.symm

theorem comparisons_of_isInf (ha : isInf a = true) (hb : isInf b = true) :
    (flt a b = true ↔ signBit a = true ∧ signBit b = false) ∧ (feq a b = true ↔ a = b) := by
  obtain ⟨na, -, -⟩ := isInf_class ha
  obtain ⟨nb, -, -⟩ := isInf_class hb
  rw [isInf_iff] at ha hb
  rw [flt_iff na nb, feq_iff na nb, orderKey_eq, orderKey_eq, ha, hb]
  have heq : a = b ↔ signBit a = signBit b := ⟨fun h => h ▸ rfl, fun h => eq_of_signBit_magBits h (ha.trans hb.symm)⟩
  rw [heq]
  cases signBit a <;> cases signBit b <;> decide

theorem comparisons_of_isNaN (h : isNaN a = true ∨ isNaN b = true) :
    flt a b = false ∧ fle a b = false ∧ feq a b = false := by
  obtain h | h := h <;> simp [flt, fle, feq, h]

theorem fle_eq_flt_or_feq (ha : isNaN a = false) (hb : isNaN b = false) : fle a b = (flt a b || feq a b) := by
  rw [Bool.eq_iff_iff, Bool.or_eq_true, fle_iff ha hb, flt_iff ha hb, feq_iff ha hb, le_iff_lt_or_eq]

theorem isNaN_iff_fne_self : isNaN a = true ↔ fne a a = true := by
  simp [fne, feq]

end

/-- Settles O55, kind of operands by kind of operands. -/
theorem comparisonsAgreeWithValues : Obligations.ComparisonsAgreeWithValues := fun _ _ =>
  ⟨comparisons_of_isFinite, comparisons_isFinite_isInf, comparisons_of_isInf, fle_eq_flt_or_feq, comparisons_of_isNaN,
    rfl, isNaN_iff_fne_self, rfl, rfl⟩

end Sys2Proof.Machine

/-! Rounding to nearest even, and the four operations on finite operands as roundings of exact results
(spec/40_numerics.md R81, R82). -/

namespace Sys2Proof.Machine

set_option Elab.async false

/-! ### Rounding to nearest even (40_numerics.md R81) -/

/-- The rounded integer is at most one half from the quotient, and even where it is one half away. -/
theorem roundHalfEven_near (p : Nat) {q : Nat} (hq : 0 < q) :
    2 * Nat.dist (roundHalfEven p q * q) p ≤ q ∧
      (2 * Nat.dist (roundHalfEven p q * q) p = q → roundHalfEven p q % 2 = 0) := by
  have hdiv := Nat.div_add_mod' p q
  have hmod := Nat.mod_lt p hq
  have hsucc : (p / q + 1) * q = p / q * q + q := Nat.succ_mul ..
  unfold roundHalfEven Nat.dist
  dsimp only
  split_ifs with hlow hhigh
  · omega
  · omega
  · obtain heven | hodd := Nat.mod_two_eq_zero_or_one (p / q)
    · rw [heven, Nat.add_zero]
      omega
    · rw [hodd]
      omega

/-- No multiple of `q` is nearer to `p`, and where another is as near the factor is even. -/
theorem roundHalfEven_nearest (p : Nat) {q : Nat} (hq : 0 < q) (n : Nat) :
    Nat.dist (roundHalfEven p q * q) p ≤ Nat.dist (n * q) p ∧
      (Nat.dist (roundHalfEven p q * q) p = Nat.dist (n * q) p → n ≠ roundHalfEven p q →
        roundHalfEven p q % 2 = 0) := by
  obtain ⟨hnear, htie⟩ := roundHalfEven_near p hq
  have hapart : n ≠ roundHalfEven p q → q ≤ Nat.dist (n * q) (roundHalfEven p q * q) := by
    intro hne
    rw [Nat.dist_mul_right]
    exact Nat.le_mul_of_pos_left q (Nat.dist_pos_of_ne hne)
  have htri := Nat.dist.triangle_inequality (n * q) p (roundHalfEven p q * q)
  rw [Nat.dist_comm p] at htri
  by_cases hne : n = roundHalfEven p q
  · rw [hne]
    exact ⟨le_rfl, fun _ h => absurd rfl h⟩
  · have := hapart hne
    exact ⟨by omega, fun heq _ => htie (by omega)⟩

/-- The magnitude bits that `rndMag` computes before it bounds them by those of infinity (R81). -/
def unboundedMag (p q : Nat) : Nat :=
  (Nat.log2 (p / q) - 23) * 2 ^ 23 + roundHalfEven p (q * 2 ^ (Nat.log2 (p / q) - 23))

theorem rndMag_eq (p q : Nat) : rndMag p q = min (unboundedMag p q) infMag := rfl

section
variable {p q : Nat}

theorem magValue_unboundedMag (hq : 0 < q) :
    magValue (unboundedMag p q) =
      roundHalfEven p (q * 2 ^ (Nat.log2 (p / q) - 23)) * 2 ^ (Nat.log2 (p / q) - 23) := by
  refine magValue_spacing ?_ (roundHalfEven_le (lt_spacing p hq))
  by_cases hk : 23 < Nat.log2 (p / q)
  · exact .inr ((spacing_le hk).trans (roundHalfEven_bounds ..).1)
  · exact .inl (by omega)

/-- No magnitude is nearer to `p / q`, and where another is as near the bits are even. -/
theorem unboundedMag_nearest (hq : 0 < q) (m : Nat) :
    Nat.dist (magValue (unboundedMag p q) * q) p ≤ Nat.dist (magValue m * q) p ∧
      (Nat.dist (magValue (unboundedMag p q) * q) p = Nat.dist (magValue m * q) p →
        magValue m ≠ magValue (unboundedMag p q) → unboundedMag p q % 2 = 0) := by
  have hparity : unboundedMag p q % 2 = roundHalfEven p (q * 2 ^ (Nat.log2 (p / q) - 23)) % 2 := by
    unfold unboundedMag
    omega
  rw [magValue_unboundedMag hq, hparity]
  generalize hk : Nat.log2 (p / q) - 23 = k
  have hQ : 0 < q * 2 ^ k := by positivity
  rw [Nat.mul_right_comm, Nat.mul_assoc _ q]
  obtain ⟨j, n, rfl, hj, hn⟩ := exists_spacing m
  rw [magValue_spacing hj hn.le]
  obtain hkj | hjk := le_or_gt k j
  · have hmul : n * 2 ^ j = n * 2 ^ (j - k) * 2 ^ k := by rw [Nat.mul_assoc, ← pow_add, Nat.sub_add_cancel hkj]
    rw [hmul, Nat.mul_right_comm, Nat.mul_assoc _ q]
    obtain ⟨hle, htie⟩ := roundHalfEven_nearest p hQ (n * 2 ^ (j - k))
    exact ⟨hle, fun heq hne => htie heq fun h => hne (h ▸ rfl)⟩
  · have hleast : 2 ^ 23 * (q * 2 ^ k) ≤ p := by
      have := spacing_le (p := p) (q := q) (by omega)
      rwa [hk, Nat.le_div_iff_mul_le hQ] at this
    have hbelow : n * 2 ^ j * q < 2 ^ 23 * (q * 2 ^ k) := by
      calc n * 2 ^ j * q < 2 ^ 24 * 2 ^ j * q := by gcongr
        _ = 2 ^ 23 * (q * 2 ^ (j + 1)) := by ring
        _ ≤ 2 ^ 23 * (q * 2 ^ k) := by gcongr <;> omega
    have hnearest := (roundHalfEven_nearest p hQ (2 ^ 23)).1
    unfold Nat.dist at *
    omega

theorem infMag_le_unboundedMag_iff (hq : 0 < q) : infMag ≤ unboundedMag p q ↔ (2 ^ 25 - 1) * 2 ^ 252 * q ≤ p := by
  have hinf : magValue infMag = 2 ^ 24 * 2 ^ 253 := by decide +kernel
  have hmax : magValue (infMag - 1) = (2 ^ 24 - 1) * 2 ^ 253 := by decide +kernel
  constructor
  · intro hle
    have hvalue := Nat.mul_le_mul_right q (magValue_strictMono.monotone hle)
    have hnearest := (unboundedMag_nearest (p := p) hq (infMag - 1)).1
    rw [hinf] at hvalue
    rw [hmax] at hnearest
    unfold Nat.dist at hnearest
    omega
  · intro hle
    by_contra hlt
    have hvalue := Nat.mul_le_mul_right q (magValue_strictMono.monotone (show unboundedMag p q ≤ infMag - 1 by omega))
    obtain ⟨hnearest, htie⟩ := unboundedMag_nearest (p := p) hq infMag
    rw [hinf] at hnearest htie
    rw [hmax] at hvalue
    have hdist : Nat.dist (magValue (unboundedMag p q) * q) p = Nat.dist (2 ^ 24 * 2 ^ 253 * q) p := by
      unfold Nat.dist at hnearest ⊢
      omega
    have hgreatest : magValue (unboundedMag p q) * q = (2 ^ 24 - 1) * 2 ^ 253 * q := by
      unfold Nat.dist at hdist
      omega
    have hodd : unboundedMag p q = infMag - 1 :=
      magValue_strictMono.injective ((Nat.eq_of_mul_eq_mul_right hq hgreatest).trans hmax.symm)
    have heven := htie hdist (by rw [hodd, hmax]; decide)
    rw [hodd] at heven
    exact absurd heven (by decide)

/-- Below the overflow limit the rounded bits are those of a finite number. -/
theorem rndMag_of_lt (hq : 0 < q) (h : p < (2 ^ 25 - 1) * 2 ^ 252 * q) :
    rndMag p q = unboundedMag p q ∧ unboundedMag p q < infMag := by
  have hlt := not_le.mp (mt (infMag_le_unboundedMag_iff hq).mp (not_le.mpr h))
  exact ⟨by rw [rndMag_eq, min_eq_left hlt.le], hlt⟩

theorem rndMag_of_le (hq : 0 < q) (h : (2 ^ 25 - 1) * 2 ^ 252 * q ≤ p) : rndMag p q = infMag := by
  rw [rndMag_eq, min_eq_right ((infMag_le_unboundedMag_iff hq).mpr h)]

/-! ### Rounding, in values -/

/-- The rational number of a sign and a magnitude `p / q` in units of `2^-149`. -/
def signedValue (s : Bool) (p q : Nat) : ℚ := signedMag s p / (2 ^ 149 * q)

theorem valueOf_eq (v : F32) : valueOf v = signedValue (signBit v) (scaledMag v) 1 := by
  rw [valueOf, signedValue, Nat.cast_one, mul_one]
  rfl

theorem abs_signedValue (s : Bool) (p q : Nat) : |signedValue s p q| = p / (2 ^ 149 * q) := by
  rw [signedValue, abs_div, abs_of_nonneg (show (0 : ℚ) ≤ 2 ^ 149 * q by positivity)]
  cases s <;> simp [signedMag]

theorem signedValue_neg_iff (s : Bool) (hp : 0 < p) (hq : 0 < q) : signedValue s p q < 0 ↔ s = true := by
  have hden : (0 : ℚ) < 2 ^ 149 * q := by positivity
  rw [signedValue, div_lt_iff₀ hden, zero_mul, Int.cast_lt_zero, signedMag]
  cases s <;> simp [hp]

@[simp] theorem signedValue_zero (s : Bool) (q : Nat) : signedValue s 0 q = 0 := by simp [signedValue, signedMag]

/-- The distance of a number from such a value. -/
theorem abs_valueOf_sub (v : F32) (s : Bool) (hq : 0 < q) :
    |valueOf v - signedValue s p q| =
      (if signBit v = s then Nat.dist (scaledMag v * q) p else scaledMag v * q + p : Nat) / (2 ^ 149 * q) := by
  have hden : (0 : ℚ) < 2 ^ 149 * q := by positivity
  have hdiff : valueOf v - signedValue s p q =
      ((signedMag (signBit v) (scaledMag v) * q - signedMag s p : Int) : ℚ) / (2 ^ 149 * q) := by
    rw [valueOf_eq, signedValue, signedValue]
    push_cast
    field_simp
  rw [hdiff, abs_div, abs_of_pos hden, ← Int.cast_abs, Int.abs_eq_natAbs, Int.cast_natCast]
  congr 2
  unfold signedMag Nat.dist
  cases s <;> cases signBit v <;> simp <;> omega

/-- `rnd` is the rounding of R81. -/
theorem isRounding_rnd (s : Bool) (hp : 0 < p) (hq : 0 < q) : IsRounding (signedValue s p q) (rnd s p q) := by
  have hden : (0 : ℚ) < 2 ^ 149 * q := by positivity
  have hlimit : (2 ^ 25 - 1) * 2 ^ 103 ≤ |signedValue s p q| ↔ (2 ^ 25 - 1) * 2 ^ 252 * q ≤ p := by
    rw [abs_signedValue, le_div_iff₀ hden, ← Nat.cast_le (α := ℚ)]
    push_cast
    ring_nf
  have hsign := signedValue_neg_iff s hp hq
  rw [IsRounding, hsign, signBit_rnd]
  split_ifs with hover <;> rw [hlimit] at hover
  · exact ⟨isInf_iff.mpr ((magBits_rnd s p q).trans (rndMag_of_le hq hover)), Iff.rfl⟩
  · obtain ⟨hmag, hfin⟩ := rndMag_of_lt hq (not_le.mp hover)
    rw [← magBits_rnd s] at hmag
    refine ⟨isFinite_iff.mpr (hmag ▸ hfin), fun _ => Iff.rfl, fun v _ => ?_⟩
    have hparity : unboundedMag p q % 2 = fracField (rnd s p q) % 2 := by
      rw [fracField_eq, hmag]
      omega
    rw [abs_valueOf_sub _ s hq, abs_valueOf_sub _ s hq, div_le_div_iff_of_pos_right hden, div_left_inj' hden.ne',
      Nat.cast_le, Nat.cast_inj, if_pos (signBit_rnd s p q), ← hparity, scaledMag_eq, scaledMag_eq, hmag]
    split_ifs with hsame
    · obtain ⟨hnear, htie⟩ := unboundedMag_nearest (p := p) hq (magBits v)
      refine ⟨hnear, fun heq hne => htie heq fun hval => hne ?_⟩
      rw [valueOf_eq, valueOf_eq, scaledMag_eq, scaledMag_eq, hmag, hsame, signBit_rnd, hval]
    · obtain ⟨hnear, htie⟩ := unboundedMag_nearest (p := p) hq 0
      rw [magValue_zero, Nat.zero_mul, Nat.dist_zero_left] at hnear htie
      refine ⟨by omega, fun heq hne => htie (by omega) fun hval => hne ?_⟩
      obtain hv | hq0 := Nat.mul_eq_zero.mp (show magValue (magBits v) * q = 0 by omega)
      · rw [valueOf_eq, valueOf_eq, scaledMag_eq, scaledMag_eq, hmag, ← hval, hv, signedValue_zero, signedValue_zero]
      · exact absurd hq0 hq.ne'

end

/-! ### The four operations on finite operands (40_numerics.md R81, R82) -/

theorem valueOf_eq_zero_iff {v : F32} : valueOf v = 0 ↔ isZero v = true := by
  rw [valueOf_eq, ← abs_eq_zero, abs_signedValue, isZero_iff, ← scaledMag_eq_zero_iff]
  simp

theorem valueOf_fneg (v : F32) : valueOf (fneg v) = -valueOf v := by
  rw [valueOf, valueOf, scaled_eq, scaled_eq, signBit_fneg, magBits_fneg]
  cases signBit v <;> simp [signedMag, neg_div]

/-- An integer is its sign and its magnitude. -/
theorem signedMag_natAbs (x : Int) : signedMag (decide (x < 0)) x.natAbs = x := by
  simp only [signedMag, decide_eq_true_eq]
  split_ifs <;> omega

theorem signedValue_natAbs (x : Int) : signedValue (decide (x < 0)) x.natAbs 1 = x / 2 ^ 149 := by
  rw [signedValue, signedMag_natAbs, Nat.cast_one, mul_one]

section
variable {a b : F32}

/-- The sign of a value, as a factor. -/
def signFactor (s : Bool) : ℚ := if s then -1 else 1

theorem signFactor_bne (s t : Bool) :
    signFactor (s != t) = signFactor s * signFactor t ∧ signFactor (s != t) = signFactor s / signFactor t := by
  cases s <;> cases t <;> simp [signFactor]

theorem signedValue_eq (s : Bool) (p q : Nat) : signedValue s p q = signFactor s * p / (2 ^ 149 * q) := by
  cases s <;> simp [signedValue, signedMag, signFactor]

theorem signedValue_mul (a b : F32) :
    signedValue (signBit a != signBit b) (scaledMag a * scaledMag b) (2 ^ 149) = valueOf a * valueOf b := by
  simp only [valueOf_eq, signedValue_eq, (signFactor_bne _ _).1]
  push_cast
  ring

theorem signedValue_div (a b : F32) :
    signedValue (signBit a != signBit b) (scaledMag a * 2 ^ 149) (scaledMag b) = valueOf a / valueOf b := by
  simp only [valueOf_eq, signedValue_eq, (signFactor_bne _ _).2]
  push_cast
  ring

theorem addCore_rounds (op : Nat) (ha : isFinite a = true) (hb : isFinite b = true) :
    if valueOf a + valueOf b = 0 then addCore op a b = withSign (signBit a && signBit b) 0
    else ∃ u, IsRounding (valueOf a + valueOf b) u ∧ addCore op a b = ftz u := by
  obtain ⟨-, ia⟩ := isFinite_class ha
  obtain ⟨-, ib⟩ := isFinite_class hb
  have hsum : valueOf a + valueOf b = ((scaled a + scaled b : Int) : ℚ) / 2 ^ 149 := by
    rw [valueOf, valueOf, Int.cast_add, add_div]
  have hzero : valueOf a + valueOf b = 0 ↔ scaled a + scaled b = 0 := by
    rw [hsum, div_eq_zero_iff, Int.cast_eq_zero]
    simp
  split_ifs with h <;> rw [hzero] at h
  · simp [addCore, ia, ib, h]
  · refine ⟨rnd (decide (scaled a + scaled b < 0)) (scaled a + scaled b).natAbs 1, ?_, by simp [addCore, ia, ib, h]⟩
    rw [hsum, ← signedValue_natAbs]
    exact isRounding_rnd _ (Int.natAbs_pos.mpr h) Nat.one_pos

theorem scaledMag_pos_of_not_isZero (h : isZero a = false) : 0 < scaledMag a := by
  rw [Nat.pos_iff_ne_zero, Ne, scaledMag_eq_zero_iff, ← isZero_iff, h]
  decide

theorem mulCore_rounds (ha : isFinite a = true) (hb : isFinite b = true) :
    if valueOf a * valueOf b = 0 then mulCore a b = withSign (signBit a != signBit b) 0
    else ∃ u, IsRounding (valueOf a * valueOf b) u ∧ mulCore a b = ftz u := by
  obtain ⟨-, ia⟩ := isFinite_class ha
  obtain ⟨-, ib⟩ := isFinite_class hb
  have hzero : valueOf a * valueOf b = 0 ↔ (isZero a || isZero b) = true := by
    rw [mul_eq_zero, valueOf_eq_zero_iff, valueOf_eq_zero_iff, Bool.or_eq_true]
  split_ifs with h <;> rw [hzero] at h
  · simp [mulCore, ia, ib, h]
  · rw [Bool.not_eq_true, Bool.or_eq_false_iff] at h
    obtain ⟨za, zb⟩ := h
    rw [← signedValue_mul]
    exact ⟨_, isRounding_rnd _ (Nat.mul_pos (scaledMag_pos_of_not_isZero za) (scaledMag_pos_of_not_isZero zb))
      (by positivity), by simp [mulCore, ia, ib, za, zb]⟩

theorem divCore_rounds (ha : isFinite a = true) (hb : isFinite b = true) (hne : valueOf b ≠ 0) :
    if valueOf a = 0 then divCore a b = withSign (signBit a != signBit b) 0
    else ∃ u, IsRounding (valueOf a / valueOf b) u ∧ divCore a b = ftz u := by
  obtain ⟨-, ia⟩ := isFinite_class ha
  obtain ⟨-, ib⟩ := isFinite_class hb
  rw [Ne, valueOf_eq_zero_iff, Bool.not_eq_true] at hne
  split_ifs with h <;> rw [valueOf_eq_zero_iff] at h
  · simp [divCore, ia, ib, h, hne]
  · rw [Bool.not_eq_true] at h
    rw [← signedValue_div]
    exact ⟨_, isRounding_rnd _ (Nat.mul_pos (scaledMag_pos_of_not_isZero h) (by positivity))
      (scaledMag_pos_of_not_isZero hne), by simp [divCore, ia, ib, h, hne]⟩

end

/-- Settles O53: each operation is that of its flushed operands, and rounds their exact result. -/
theorem arithmeticRoundsExactResults : Obligations.ArithmeticRoundsExactResults := by
  intro a b ha hb x y
  obtain ⟨na, -⟩ := isFinite_class ha
  obtain ⟨nb, -⟩ := isFinite_class hb
  have fa : isFinite (daz a) = true := by rwa [isFinite_daz]
  have fb : isFinite (daz b) = true := by rwa [isFinite_daz]
  have fb' : isFinite (fneg (daz b)) = true := by rwa [isFinite_fneg]
  have hadd := addCore_rounds 0 fa fb
  have hsub := addCore_rounds 1 fa fb'
  have hmul := mulCore_rounds fa fb
  have hdiv := divCore_rounds fa fb
  rw [valueOf_fneg, ← sub_eq_add_neg] at hsub
  simp only [signBit_fneg, signBit_daz, withSign_zero_eq] at hadd hsub hmul hdiv
  rw [fadd_eq_addCore na nb, fsub_eq_addCore na nb, fmul_eq_mulCore na nb, fdiv_eq_divCore na nb]
  exact ⟨hadd, hsub, hmul, hdiv⟩

end Sys2Proof.Machine

/-! Exact sums and the integer conversions (spec/40_numerics.md R85; spec/41_delay_line.md R103). -/

namespace Sys2Proof.Machine

set_option Elab.async false

/-! ### Exact results of a rounding (40_numerics.md R81) -/

/-- A magnitude of at most 24 significant bits is a multiple of its spacing. -/
theorem spacing_dvd {m j : Nat} (hm : m ≤ 2 ^ 24) (hpos : 0 < m) :
    2 ^ (Nat.log2 (m * 2 ^ j) - 23) ∣ m * 2 ^ j := by
  obtain hlt | rfl := hm.lt_or_eq
  · refine (Nat.pow_dvd_pow 2 ?_).mul_left m
    have hlog : Nat.log2 (m * 2 ^ j) < 24 + j := by
      rw [Nat.log2_lt (by positivity), pow_add]
      gcongr
    omega
  · rw [← pow_add, Nat.log2_two_pow]
    exact Nat.pow_dvd_pow 2 (by omega)

/-- A multiple rounds to its factor. -/
theorem roundHalfEven_of_dvd {p q : Nat} (hq : 0 < q) (h : q ∣ p) : roundHalfEven p q * q = p := by
  simp [roundHalfEven, Nat.mod_eq_zero_of_dvd h, hq, Nat.div_mul_cancel h]

/-- A magnitude of at most 24 significant bits, within the range, is rounded to itself. -/
theorem rnd_exact (s : Bool) {p m j : Nat} (hp : p = m * 2 ^ j) (hpos : 0 < m) (hm : m ≤ 2 ^ 24) (hlt : p < 2 ^ 200) :
    isFinite (rnd s p 1) = true ∧ scaledMag (rnd s p 1) = p := by
  obtain ⟨hmag, hfin⟩ := rndMag_of_lt (p := p) Nat.one_pos (hlt.trans (by norm_num))
  refine ⟨isFinite_iff.mpr (by rwa [magBits_rnd, hmag]), ?_⟩
  rw [scaledMag_eq, magBits_rnd, hmag, magValue_unboundedMag Nat.one_pos, Nat.div_one, Nat.one_mul]
  exact roundHalfEven_of_dvd (by positivity) (hp ▸ spacing_dvd hm hpos)

theorem scaled_rnd (s : Bool) (p q : Nat) : scaled (rnd s p q) = signedMag s (scaledMag (rnd s p q)) := by
  rw [scaled_eq, signBit_rnd, scaledMag_eq]

/-- A subnormal number is below the least normal one (R80). -/
theorem isSubnormal_of_le_scaledMag {v : F32} (h : 2 ^ 23 ≤ scaledMag v) : isSubnormal v = false := by
  rw [scaledMag_eq, show 2 ^ 23 = magValue (2 ^ 23) by decide, magValue_strictMono.le_iff_le] at h
  exact isSubnormal_eq_false_iff.mpr (.inr h)

/-- A sum of at most 24 significant bits, within the range and not subnormal, is exact (R81, R82). -/
theorem scaled_addCore (op : Nat) {a b : F32} (ha : isFinite a = true) (hb : isFinite b = true)
    (h : scaled a + scaled b = 0 ∨ ∃ m j, (scaled a + scaled b).natAbs = m * 2 ^ j ∧ m ≤ 2 ^ 24 ∧
      2 ^ 23 ≤ m * 2 ^ j ∧ m * 2 ^ j < 2 ^ 200) :
    scaled (addCore op a b) = scaled a + scaled b := by
  obtain ⟨-, ia⟩ := isFinite_class ha
  obtain ⟨-, ib⟩ := isFinite_class hb
  by_cases hzero : scaled a + scaled b = 0
  · have hsum : addCore op a b = withSign (signBit a && signBit b) 0 := by simp [addCore, ia, ib, hzero]
    rw [hsum, hzero, scaled_eq, magBits_withSign_zero]
    simp [signedMag]
  · obtain ⟨m, j, hx, hm, hlow, hhigh⟩ := h.resolve_left hzero
    have hsum : addCore op a b = ftz (rnd (decide (scaled a + scaled b < 0)) (scaled a + scaled b).natAbs 1) := by
      simp [addCore, ia, ib, hzero]
    have hpos : 0 < m := Nat.pos_of_mul_pos_right (lt_of_lt_of_le (by decide) hlow)
    obtain ⟨-, hmag⟩ := rnd_exact (decide (scaled a + scaled b < 0)) hx hpos hm (hx ▸ hhigh)
    have hnormal := isSubnormal_of_le_scaledMag (hlow.trans (hx.symm.trans hmag.symm).le)
    rw [hsum, ftz, hnormal, if_neg Bool.false_ne_true, scaled_rnd, hmag, signedMag_natAbs]

/-! ### Integer conversions (40_numerics.md R85) -/

theorem signedMag_mul (s : Bool) (m n : Nat) : signedMag s (m * n) = signedMag s m * n := by
  cases s <;> simp [signedMag]

/-- `i2f` is exact up to `2^24`. -/
theorem i2f_exact {n : Int} (h : n.natAbs ≤ 2 ^ 24) : isFinite (i2f n) = true ∧ scaled (i2f n) = n * 2 ^ 149 := by
  unfold i2f
  split_ifs with hn
  · rw [hn]
    decide +kernel
  · have hbound : n.natAbs * 2 ^ 149 ≤ 2 ^ 24 * 2 ^ 149 := Nat.mul_le_mul_right _ h
    obtain ⟨hfin, hmag⟩ := rnd_exact (decide (n < 0)) rfl (Int.natAbs_pos.mpr hn) h (hbound.trans_lt (by norm_num))
    refine ⟨hfin, ?_⟩
    rw [scaled_rnd, hmag, signedMag_mul, signedMag_natAbs]
    norm_num

/-- `ifloor` of a number that is not negative is the greatest integer not above it. -/
theorem ifloor_bounds {x : F32} (h : 0 ≤ scaled x) :
    (ifloor x : Int) * 2 ^ 149 ≤ scaled x ∧ scaled x < (ifloor x + 1) * 2 ^ 149 := by
  have hfloor : (ifloor x : Int) = scaled x / 2 ^ 149 := Int.toNat_of_nonneg (Int.ediv_nonneg h (by positivity))
  rw [hfloor]
  omega

theorem valueOf_ifloor {x : F32} (h : 0 ≤ scaled x) : (ifloor x : ℚ) ≤ valueOf x ∧ valueOf x < ifloor x + 1 := by
  obtain ⟨hlow, hhigh⟩ := ifloor_bounds h
  rw [valueOf, le_div_iff₀ (by positivity), div_lt_iff₀ (by positivity)]
  exact ⟨mod_cast hlow, mod_cast hhigh⟩

/-- The fractional part of a number that is not subnormal has at most 24 significant bits and is zero or not
subnormal. -/
theorem scaledMag_mod {v : F32} (h : isSubnormal v = false) :
    scaledMag v % 2 ^ 149 = 0 ∨
      ∃ m j, scaledMag v % 2 ^ 149 = m * 2 ^ j ∧ m ≤ 2 ^ 24 ∧ 2 ^ 23 ≤ m * 2 ^ j := by
  by_cases hzero : scaledMag v % 2 ^ 149 = 0
  · exact .inl hzero
  have hnormal : 2 ^ 23 ≤ scaledMag v := by
    obtain h | h := isSubnormal_eq_false_iff.mp h
    · rw [scaledMag_eq_zero_iff.mpr h] at hzero
      exact absurd rfl hzero
    · rw [scaledMag_eq, show 2 ^ 23 = magValue (2 ^ 23) by decide]
      exact magValue_strictMono.monotone h
  obtain ⟨k, n, hm, hk, hn⟩ := exists_spacing (magBits v)
  have hvalue : scaledMag v = n * 2 ^ k := by rw [scaledMag_eq, hm, magValue_spacing hk hn.le]
  rw [hvalue] at hzero hnormal ⊢
  right
  by_cases hsmall : k < 23
  · have hlt : n * 2 ^ k < 2 ^ 149 := by
      calc n * 2 ^ k < 2 ^ 24 * 2 ^ k := by gcongr
        _ ≤ 2 ^ 24 * 2 ^ 23 := Nat.mul_le_mul_left _ (Nat.pow_le_pow_right (by decide) (by omega))
        _ < 2 ^ 149 := by norm_num
    exact ⟨n, k, Nat.mod_eq_of_lt hlt, hn.le, hnormal⟩
  · have hk149 : k ≤ 149 := by
      by_contra hgt
      exact hzero (Nat.mod_eq_zero_of_dvd ((Nat.pow_dvd_pow 2 (by omega)).mul_left n))
    have hmod : n * 2 ^ k % 2 ^ 149 = n % 2 ^ (149 - k) * 2 ^ k := by
      rw [← Nat.mul_mod_mul_right, ← pow_add, Nat.sub_add_cancel hk149]
    refine ⟨n % 2 ^ (149 - k), k, hmod, (Nat.mod_le _ _).trans hn.le, ?_⟩
    rw [hmod] at hzero
    calc 2 ^ 23 ≤ 2 ^ k := Nat.pow_le_pow_right (by decide) (by omega)
      _ ≤ n % 2 ^ (149 - k) * 2 ^ k := Nat.le_mul_of_pos_left _ (Nat.pos_of_ne_zero fun h0 => hzero (by simp [h0]))

theorem scaled_fneg (v : F32) : scaled (fneg v) = -scaled v := by
  rw [scaled_eq, scaled_eq, signBit_fneg, magBits_fneg]
  cases signBit v <;> simp [signedMag]

/-- The fractional part that `readInterp` forms is exact (41_delay_line.md R103). -/
theorem scaled_fsub_ifloor {d : F32} (hfin : isFinite d = true) (hnonneg : 0 ≤ scaled d)
    (hlt : scaled d < 2 ^ 24 * 2 ^ 149) (hsub : isSubnormal d = false) :
    scaled (fsub d (i2f (ifloor d))) = scaled d - ifloor d * 2 ^ 149 := by
  obtain ⟨hlow, hhigh⟩ := ifloor_bounds hnonneg
  obtain ⟨hifin, hiscaled⟩ := i2f_exact (n := ifloor d) (by omega)
  obtain ⟨nd, -⟩ := isFinite_class hfin
  obtain ⟨ni, -⟩ := isFinite_class hifin
  have hmag : (scaledMag d : Int) = scaled d := by
    unfold scaled at hnonneg ⊢
    split_ifs at hnonneg ⊢ <;> omega
  have hdiff : scaled d + scaled (fneg (i2f (ifloor d))) = ((scaledMag d % 2 ^ 149 : Nat) : Int) := by
    rw [scaled_fneg, hiscaled]
    omega
  rw [fsub_eq_addCore nd ni, daz_of_not_isSubnormal hsub, daz_of_not_isSubnormal (isSubnormal_i2f _),
    scaled_addCore 1 hfin (by rwa [isFinite_fneg]), scaled_fneg, hiscaled, sub_eq_add_neg]
  rw [hdiff, Int.natCast_eq_zero, Int.natAbs_natCast]
  refine (scaledMag_mod hsub).imp_right fun ⟨m, j, hr, hm, hlow⟩ => ⟨m, j, hr, hm, hlow, ?_⟩
  rw [← hr]
  exact (Nat.mod_lt _ (by positivity)).trans (by norm_num)

/-- A number between two finite numbers is finite (R83). -/
theorem isFinite_of_between {lo hi v : F32} (hlo : isFinite lo = true) (hhi : isFinite hi = true)
    (h : fle lo v = true) (h' : flt v hi = true) : isFinite v = true := by
  have hkey : orderKey lo ≤ orderKey v ∧ orderKey v < orderKey hi := by
    simp only [fle, flt, Bool.and_eq_true, decide_eq_true_eq] at h h'
    exact ⟨h.2, h'.2⟩
  have hlow := (orderKey_of_isFinite hlo).1
  have hhigh := (orderKey_of_isFinite hhi).2
  rw [isFinite_iff]
  unfold orderKey at *
  split_ifs at * <;> omega

theorem scaled_nonneg {x : F32} (hfin : isFinite x = true) (h : fle 0x00000000#32 x = true) : 0 ≤ scaled x := by
  obtain ⟨-, hle, -⟩ := comparisons_of_isFinite (a := 0x00000000#32) (by decide) hfin
  have hvalue := hle.mp h
  rwa [valueOf, valueOf, div_le_div_iff_of_pos_right (by positivity), Int.cast_le] at hvalue

/-- An integer in units of `2^-149`, as a value. -/
theorem cast_units_div (n : Int) : ((n * 2 ^ 149 : Int) : ℚ) / 2 ^ 149 = n := by
  rw [Int.cast_mul, Int.cast_pow, Int.cast_ofNat]
  exact mul_div_cancel_right₀ _ (by positivity)

/-- Settles O56: the conversions are exact in units of `2^-149`, and so in value. -/
theorem integerConversionsAreExact : Obligations.IntegerConversionsAreExact := by
  refine ⟨fun n hn => ?_, fun x hfin hx => valueOf_ifloor (scaled_nonneg hfin hx), fun d hd hlt hsub => ?_⟩
  · obtain ⟨hfin, hscaled⟩ := i2f_exact (n := n) (by rw [Int.abs_eq_natAbs] at hn; exact_mod_cast hn)
    refine ⟨hfin, ?_⟩
    rw [valueOf, hscaled, cast_units_div]
  · have hlimit : isFinite 0x4B800000#32 = true := by decide
    have hfin := isFinite_of_between (by decide) hlimit hd hlt
    have hnonneg := scaled_nonneg hfin hd
    have hbound : scaled d < 2 ^ 24 * 2 ^ 149 := by
      have hvalue := (comparisons_of_isFinite hfin hlimit).1.mp hlt
      rw [valueOf, valueOf, div_lt_div_iff_of_pos_right (by positivity), Int.cast_lt] at hvalue
      exact hvalue.trans_eq (by decide +kernel)
    obtain ⟨hlow, hhigh⟩ := valueOf_ifloor hnonneg
    have hexact : valueOf (fsub d (i2f (ifloor d))) = valueOf d - ifloor d := by
      rw [valueOf, scaled_fsub_ifloor hfin hnonneg hbound hsub, Int.cast_sub, sub_div, cast_units_div, valueOf,
        Int.cast_natCast]
    rw [hexact]
    exact ⟨rfl, by linarith, by linarith⟩

end Sys2Proof.Machine

/-! The exact values of the reference functions (spec/40_numerics.md R86 to R88). -/

namespace Sys2Proof.Machine

set_option Elab.async false

theorem scaled_of_isZero {v : F32} (h : isZero v = true) : scaled v = 0 := by
  rw [isZero_iff, magBits] at h
  have hexp : expField v = 0 := by unfold expField; omega
  have hfrac : fracField v = 0 := by unfold fracField; omega
  simp [scaled, scaledMag, hexp, hfrac]

/-- The exponentials of both zeros are 1.0, whatever the argument's scale: the fixed-point argument is 0
(R86 (a), R87 (a)). -/
theorem expScaled_of_isZero (c : Nat) {x : F32} (h : isZero x = true) : expScaled c x = 0x3F800000#32 := by
  have hkey : orderKey x = 0 := by rw [isZero_iff] at h; simp [orderKey, h]
  have hnan : isNaN x = false := by rw [isZero_iff] at h; simp [isNaN, h]
  have hhigh : flt 0x43000000#32 x = false := by simp [flt, hkey, show ¬orderKey 0x43000000#32 < 0 by decide]
  have hlow : flt x 0xC3000000#32 = false := by simp [flt, hkey, show ¬0 < orderKey 0xC3000000#32 by decide]
  have hexp : expRounded 0 = 0x3F800000#32 := by decide +kernel
  simp [expScaled, hnan, hhigh, hlow, toFix, scaled_of_isZero h, hexp]

theorem refPow10_of_isZero {x : F32} (h : isZero x = true) : refNum.pow10 x = 0x3F800000#32 :=
  expScaled_of_isZero fixLn10 h

theorem refFexp_of_isZero {x : F32} (h : isZero x = true) : refNum.fexp x = 0x3F800000#32 :=
  expScaled_of_isZero (2 ^ fixBits) h

/-- The sine at the quarter turns (R88 (b)). -/
theorem refSin2pi_quarters :
    refNum.sin2pi 0x00000000#32 = 0x00000000#32 ∧ refNum.sin2pi 0x3E800000#32 = 0x3F800000#32 ∧
      refNum.sin2pi 0x3F000000#32 = 0x00000000#32 ∧ refNum.sin2pi 0x3F400000#32 = 0xBF800000#32 := by decide +kernel

/-- The cosine at the first three quarter turns (R88 (b)). -/
theorem refCos2pi_quarters :
    refNum.cos2pi 0x00000000#32 = 0x3F800000#32 ∧ refNum.cos2pi 0x3E800000#32 = 0x00000000#32 ∧
      refNum.cos2pi 0x3F000000#32 = 0xBF800000#32 := by decide +kernel

/-- Settles O57, function by function. -/
theorem referenceFunctionsHaveExactValues : Obligations.ReferenceFunctionsHaveExactValues := by
  obtain ⟨hs0, hs1, hs2, hs3⟩ := refSin2pi_quarters
  obtain ⟨hc0, hc1, hc2⟩ := refCos2pi_quarters
  have hplus : isZero 0x00000000#32 = true := by decide
  have hminus : isZero 0x80000000#32 = true := by decide
  exact ⟨refPow10_of_isZero hplus, refPow10_of_isZero hminus, refFexp_of_isZero hplus, refFexp_of_isZero hminus,
    hs0, hs1, hs2, hs3, hc0, hc1, hc2⟩

end Sys2Proof.Machine

/-! The delay lines (spec/41_delay_line.md): what a write and a read do to one line (R101 to R103), the history a line
returns (R105), and the heads, which count samples together (R108). -/

namespace Sys2Proof.Machine

set_option Elab.async false

/-! ### One line: a write and a read (R101 to R103; 20_memory.md R44) -/

/-- A line whose head addresses one of its words and whose memory is canonical (10_state.md R21; log entry 8). -/
structure Line.Canonical {w : Nat} (cap : Nat) (l : Line w) : Prop where
  head_lt : l.head.toNat < cap
  buf_wf : Memory.wf cap l.buf = true

theorem clearLine_canonical {w cap : Nat} (hcap : 0 < cap) : (clearLine : Line w).Canonical cap where
  head_lt := by simpa [clearLine] using hcap
  buf_wf := clearLine_wf cap

section
variable {w cap : Nat} {l : Line w}

/-- A head of `w` bits that counts modulo a capacity of at most `2^w` words loses nothing (R101). -/
theorem lineWrite_head_toNat (hcap : 0 < cap) (hw : cap ≤ 2 ^ w) (l : Line w) (x : F32) :
    (lineWrite cap l x).head.toNat = (l.head.toNat + 1) % cap := by
  rw [lineWrite_head, BitVec.toNat_ofNat]
  exact Nat.mod_eq_of_lt ((Nat.mod_lt _ hcap).trans_le hw)

/-- One more than an index of the line, modulo the capacity: only the last index wraps. -/
theorem succ_mod_capacity {a : Nat} (h : a < cap) : (a + 1) % cap = if a = cap - 1 then 0 else a + 1 := by
  split
  · next hlast => rw [hlast, Nat.sub_add_cancel (by omega), Nat.mod_self]
  · next hlast => exact Nat.mod_eq_of_lt (by omega)

theorem Line.Canonical.lineWrite (h : l.Canonical cap) (hw : cap ≤ 2 ^ w) (x : F32) :
    (lineWrite cap l x).Canonical cap where
  head_lt := by
    have hcap : 0 < cap := Nat.zero_lt_of_lt h.head_lt
    rw [lineWrite_head_toNat hcap hw]
    exact Nat.mod_lt _ hcap
  buf_wf := lineWrite_wf x h.buf_wf h.head_lt

/-- The word at the former head is the word just written. -/
theorem ramRead_lineWrite_head (h : l.Canonical cap) (x : F32) : ramRead (lineWrite cap l x) l.head.toNat = x :=
  memRead_memWrite x h.buf_wf

theorem iclamp_bounds (hcap : 0 < cap) (d : Int) : 0 ≤ iclamp d 0 (cap - 1) ∧ iclamp d 0 (cap - 1) < cap := by
  unfold iclamp
  split_ifs <;> omega

/-- The index a read addresses, as an integer: the clamped delay behind the head, a capacity further on where that
lies before the first word (R102). -/
theorem readIndex_eq (hhead : l.head.toNat < cap) (d : Int) :
    (readIndex cap l d : Int) =
      if l.head.toNat < iclamp d 0 (cap - 1) then l.head.toNat + cap - iclamp d 0 (cap - 1)
      else l.head.toNat - iclamp d 0 (cap - 1) := by
  obtain ⟨hlow, hhigh⟩ := iclamp_bounds (Nat.zero_lt_of_lt hhead) d
  unfold readIndex
  split
  · rw [Nat.mod_eq_of_lt (by omega)]
    omega
  · rw [Nat.mod_eq_sub_mod (by omega), Nat.mod_eq_of_lt (by omega)]
    omega

/-- No read forms an index outside the line (20_memory.md R44). -/
theorem readIndex_lt (hcap : 0 < cap) (l : Line w) (d : Int) : readIndex cap l d < cap := Nat.mod_lt _ hcap

/-- A fractional read interpolates between the reads around its clamped delay; the second is the greatest delay where
the next one would be outside the line (R103). -/
theorem lineReadInterp_eq (cap : Nat) (l : Line w) (e : F32) :
    lineReadInterp cap l e =
      let e' := fclamp e fzero (i2f (cap - 1))
      let x0 := lineRead cap l (ifloor e')
      let x1 := lineRead cap l (if ifloor e' + 1 < cap then (ifloor e' + 1 : Int) else cap - 1)
      fadd x0 (fmul (fsub e' (i2f (ifloor e'))) (fsub x1 x0)) := by
  have hnext (i : Nat) : min (i + 1 : Int) (cap - 1) = if i + 1 < cap then (i + 1 : Int) else cap - 1 := by
    split <;> omega
  simp only [lineReadInterp, hnext]

end

/-- Settles O48: each clause is the law of its operation. -/
theorem lineOperationsStayInTheLine : Obligations.LineOperationsStayInTheLine := by
  intro w cap l x d hcap hw hhead hwf
  refine ⟨ramRead_lineWrite_head ⟨hhead, hwf⟩ x, ?_, fun a ha => ramRead_lineWrite_of_ne cap l x ha,
    lineWrite_wf x hwf hhead, ⟨readIndex cap l d, readIndex_lt hcap l d, rfl, readIndex_eq hhead d⟩,
    lineReadInterp_eq cap l⟩
  rw [lineWrite_head_toNat hcap hw, succ_mod_capacity hhead]

/-! ### The history of a line (R104, R105) -/

section
variable {w cap d : Nat} {l : Line w}

theorem iclamp_of_lt (h : d < cap) : iclamp d 0 (cap - 1) = d := by
  rw [iclamp, if_neg (by omega), if_neg (by omega)]

/-- A write moves the head one on, so that the word which lay `d` behind lies `d + 1` behind. -/
theorem readIndex_lineWrite (hhead : l.head.toNat < cap) (hw : cap ≤ 2 ^ w) (hd : d + 1 < cap) (x : F32) :
    readIndex cap (lineWrite cap l x) (d + 1 : Nat) = readIndex cap l d := by
  have hcap : 0 < cap := Nat.zero_lt_of_lt hhead
  have hhead' := lineWrite_head_toNat hcap hw l x
  have hnew := readIndex_eq (l := lineWrite cap l x) (hhead' ▸ Nat.mod_lt _ hcap) (d + 1 : Nat)
  have hold := readIndex_eq hhead d
  rw [iclamp_of_lt hd, hhead', succ_mod_capacity hhead] at hnew
  rw [iclamp_of_lt (by omega)] at hold
  split_ifs at hnew hold <;> omega

/-- Among the delays of the line only 0 addresses the head, the word the next write replaces (R106). -/
theorem readIndex_eq_head_iff (hhead : l.head.toNat < cap) (hd : d < cap) :
    readIndex cap l d = l.head.toNat ↔ d = 0 := by
  have hindex := readIndex_eq hhead d
  rw [iclamp_of_lt hd] at hindex
  split at hindex <;> omega

/-- After a write the word written is read one sample behind, and every other word one sample further behind. -/
theorem lineRead_lineWrite (h : l.Canonical cap) (hw : cap ≤ 2 ^ w) (hd : d + 1 < cap) (x : F32) :
    lineRead cap (lineWrite cap l x) (d + 1 : Nat) = if d = 0 then x else lineRead cap l d := by
  have hiff := readIndex_eq_head_iff h.head_lt (Nat.lt_of_succ_lt hd)
  rw [lineRead, readIndex_lineWrite h.head_lt hw hd]
  split
  · next hzero => rw [hiff.mpr hzero, ramRead_lineWrite_head h]
  · next hpos => exact ramRead_lineWrite_of_ne cap l x (mt hiff.mp hpos)

theorem foldl_lineWrite_canonical (hw : cap ≤ 2 ^ w) (h : l.Canonical cap) (xs : List F32) :
    (xs.foldl (lineWrite cap) l).Canonical cap := by
  induction xs generalizing l with
  | nil => exact h
  | cons x xs ih => exact ih (h.lineWrite hw x)

end

/-- Settles O47, by induction on the writes, the newest last: one more write moves the history one sample back. -/
theorem delayLineReturnsItsHistory : Obligations.DelayLineReturnsItsHistory := by
  intro w cap xs d hw hd hlt
  induction xs using List.reverseRecOn generalizing d with
  | nil => exact ramRead_clearLine _
  | append_singleton xs x ih =>
    obtain ⟨d, rfl⟩ := Nat.exists_eq_add_of_le' hd
    have hline := foldl_lineWrite_canonical hw (clearLine_canonical (Nat.zero_lt_of_lt hlt)) xs
    rw [List.foldl_append, List.foldl_cons, List.foldl_nil, lineRead_lineWrite hline hw hlt, List.reverse_concat]
    cases d with
    | zero => rfl
    | succ d => exact ih (d + 1) (by omega) (by omega)

/-! ### The heads of the sixteen lines (R108) -/

/-- Every head is `n`, modulo the capacity of its line: `n` samples have been written since the last clear. -/
def HeadsAt (n : Nat) (s : State) : Prop :=
  LinesAll (fun l => l.head.toNat = n % refCfg.capDl) (fun l => l.head.toNat = n % refCfg.capAp) s

/-- The heads are in step when they count the same samples: a capacity of the diffusers divides that of the network. -/
theorem headsInStep_iff {s : State} : HeadsInStep s ↔ ∃ n, HeadsAt n s := by
  constructor
  · rintro ⟨hdl, hap⟩
    have hfirst := (Nat.mod_eq_of_lt (head_lt_capDl s.dl[0])).symm
    exact ⟨s.dl[0].head.toNat, fun i => (congrArg BitVec.toNat (hdl i)).trans hfirst, hap⟩
  · rintro ⟨n, hdl, hap⟩
    refine ⟨fun i => BitVec.eq_of_toNat_eq ((hdl i).trans (hdl 0).symm), fun ch k => ?_⟩
    have hfirst : s.dl[0].head.toNat = n % refCfg.capDl := hdl 0
    rw [hap ch k, hfirst]
    exact (Nat.mod_mod_of_dvd n (by decide)).symm

section
variable {n : Nat} {s t : State}

theorem headsAt_zero_of_cleared (hdl : t.dl = Vector.replicate 8 clearLine)
    (hap : t.ap = Vector.replicate 2 (Vector.replicate 4 clearLine)) : HeadsAt 0 t := by
  unfold HeadsAt LinesAll
  rw [hdl, hap]
  exact ⟨fun i => by simp [clearLine], fun ch k => by simp [clearLine]⟩

/-- RST rewinds every line (70_reset_and_hazards.md R220). -/
theorem applyRst_headsAt (s : State) : HeadsAt 0 (applyRst refCfg s) :=
  ⟨fun i => by simp [applyRst], fun ch k => by simp [applyRst]⟩

/-- CONTROLLATCH leaves the lines, or clears them all at a mode switch (49_cmd_process.md R191). -/
theorem controlLatch_headsAt (h : HeadsAt n s) : ∃ m, HeadsAt m (controlLatch refCfg s) := by
  by_cases hm : s.targets.modeT = s.active.mode
  · obtain ⟨hdl, hap, -⟩ := controlLatch_same_mode refCfg hm
    exact ⟨n, LinesAll.of_eq h hdl hap⟩
  · obtain ⟨hdl, hap, -⟩ := controlLatch_mode_switch refCfg hm
    exact ⟨0, headsAt_zero_of_cleared hdl hap⟩

/-- Steps P4 to P7 write each of the sixteen lines exactly once. -/
theorem samplePhase_headsAt (h : HeadsAt n s) (left right : Operand) :
    HeadsAt (n + 1) (samplePhase refCfg left right s) := by
  obtain ⟨hdl, hap⟩ := h
  refine ⟨fun i => ?_, fun ch k => ?_⟩
  · obtain ⟨v, hv⟩ := samplePhase_dl refCfg left right s i
    rw [hv, fdnWrite, lineWrite_head_toNat (by decide) (by decide), hdl i, Nat.mod_add_mod]
  · obtain ⟨v, hv⟩ := samplePhase_ap refCfg left right s ch k
    rw [hv, lineWrite_head_toNat (by decide) (by decide), hap ch k, Nat.mod_add_mod]

/-- PROCESS counts one sample, after the clear of a mode switch if there is one (49_cmd_process.md R190). -/
theorem processWith_headsAt (h : HeadsAt n s) (left right : Operand) :
    ∃ m, HeadsAt m (processWith refCfg left right s) := by
  unfold processWith
  split
  · obtain ⟨m, hm⟩ := controlLatch_headsAt h
    exact ⟨m + 1, samplePhase_headsAt (smoothPhase_linesAll hm) left right⟩
  · exact ⟨n, h⟩

/-- A refused PREPARE leaves the lines, an accepted one clears them (47_cmd_lifecycle.md R171). -/
theorem prepareWith_headsAt (h : HeadsAt n s) (rate block : Operand) :
    ∃ m, HeadsAt m (prepareWith refCfg rate block s) := by
  unfold prepareWith
  split
  · exact ⟨n, h⟩
  · exact ⟨0, headsAt_zero_of_cleared rfl rfl⟩

/-- PROCESS may write every line once; any other command leaves every line or clears every line. -/
theorem commandWith_headsAt (h : HeadsAt n s) (i : Instr) : ∃ m, HeadsAt m (commandWith refCfg i s) := by
  cases i with
  | nop | rdstat | setmode | setfrz | setcpx => exact ⟨n, h⟩
  | prepare rate block => exact prepareWith_headsAt h rate block
  | reset => exact ⟨0, headsAt_zero_of_cleared rfl rfl⟩
  | process left right => exact processWith_headsAt h left right
  | setp idx v => exact ⟨n, setpWith_linesAll h idx v⟩

end

/-- Settles O41: a step leaves every head, returns every head to 0 or advances every head by one sample. -/
theorem stepKeepsHeadsInStep : Obligations.StepKeepsHeadsInStep := by
  intro s t hs hstep
  obtain ⟨n, hn⟩ := headsInStep_iff.mp hs
  have haccept : HeadsAt n (acceptInput s) := hn
  exact headsInStep_iff.mpr
    (step_gives (P := fun t => ∃ m, HeadsAt m t) hstep (commandWith_headsAt haccept) ⟨n, haccept⟩
      ⟨0, applyRst_headsAt _⟩)

end Sys2Proof.Machine

/-! The diffuser chain (spec/42_allpass_diffuser.md): the signal between its stages, and what each stage reads, passes
on and writes (R111, R112, R114). -/

namespace Sys2Proof.Machine

/-! ### The signal through a chain (R111, R112) -/

/-- The signal before stage 0, between the stages and after stage 3 of a chain (R112). -/
def chainSignal (c : Config) (apd lfo : F32) (lens : Vector (BitVec 12) 4) (lines : Vector (Line 12) 4) (x0 : F32) :
    Vector F32 5 :=
  Vector.ofFn fun j => stageInput (Vector.ofFn (stageRead c lens apd lfo lines)) x0 j

section
variable (c : Config) (g apd lfo : F32) (lens : Vector (BitVec 12) 4) (lines : Vector (Line 12) 4) (x0 : F32)

/-- The sample enters the chain at stage 0. -/
theorem chainSignal_zero : (chainSignal c apd lfo lens lines x0)[0] = x0 := by
  rw [chainSignal, Vector.getElem_ofFn, stageInput]

/-- Stage `k` passes its signal on to the next stage (R111). -/
theorem chainSignal_succ (k : Fin 4) :
    (chainSignal c apd lfo lens lines x0)[k.val + 1] =
      stageOut (chainSignal c apd lfo lens lines x0)[k.val] (stageRead c lens apd lfo lines k) := by
  simp only [chainSignal, Vector.getElem_ofFn, stageInput, dif_pos k.isLt]

/-- What stage 3 passes on is the diffused sample (R112). -/
theorem diffuse_out : (diffuse c g apd lfo lens lines x0).out = (chainSignal c apd lfo lens lines x0)[4] := by
  rw [chainSignal, Vector.getElem_ofFn, diffuse]

/-- Stage `k` writes one word, to its own line (R111). -/
theorem diffuse_lines_getElem (k : Fin 4) :
    (diffuse c g apd lfo lens lines x0).lines[k] =
      lineWrite c.capAp lines[k]
        (stageWord g (chainSignal c apd lfo lens lines x0)[k.val] (stageRead c lens apd lfo lines k)) := by
  simp only [diffuse, chainSignal, Fin.getElem_fin, Vector.getElem_ofFn]

/-! ### The reads of a chain (R112, R114) -/

/-- Stages 0 to 2 read at their length (R112). -/
theorem stageRead_fixed {k : Fin 4} (h : k.val < 3) :
    stageRead c lens apd lfo lines k = lineRead c.capAp lines[k] lens[k].toNat := if_pos h

/-- The last stage reads at its modulated request (R114). -/
theorem stageRead_last : stageRead c lens apd lfo lines 3 = apReadMod c lens[3] apd lfo lines[3] :=
  if_neg (by decide)

end

/-! ### The chain of the reference configuration (20_memory.md R43; R114) -/

/-- The greatest delay of an allpass line of `4096` words (R114). -/
theorem maxDelayAp_refCfg : maxDelayAp refCfg = i2f 4095 := congrArg i2f (by decide)

/-- The delay the last stage reads at: its modulated request between `D_MIN` and the greatest delay (R114). -/
def boundedRequest (len : BitVec 12) (apd lfo : F32) : F32 := fclamp (apRequest len apd lfo) 0x3F800000#32 (i2f 4095)

/-- The modulated read interpolates at the bounded request (R114). -/
theorem apReadMod_refCfg (len : BitVec 12) (apd lfo : F32) (l : Line 12) :
    apReadMod refCfg len apd lfo l = lineReadInterp 4096 l (boundedRequest len apd lfo) := by
  rw [apReadMod, maxDelayAp_refCfg, boundedRequest, refCfg]

/-- The clamp's flag says that the clamp changed the request (R114). -/
theorem apClamped_refCfg (len : BitVec 12) (apd lfo : F32) :
    apClamped refCfg len apd lfo = fne (boundedRequest len apd lfo) (apRequest len apd lfo) := by
  rw [apClamped, maxDelayAp_refCfg, boundedRequest, refCfg]

/-- A stage reads by its place in the chain (R112). -/
theorem stageRead_refCfg (apd lfo : F32) (lens : Vector (BitVec 12) 4) (lines : Vector (Line 12) 4) (k : Fin 4) :
    stageRead refCfg lens apd lfo lines k =
      if k.val < 3 then lineRead 4096 lines[k] lens[k].toNat
      else lineReadInterp 4096 lines[k] (boundedRequest lens[3] apd lfo) := by
  split
  case isTrue hfixed => exact stageRead_fixed refCfg apd lfo lens lines hfixed
  case isFalse hlast =>
    obtain rfl : k = 3 := by omega
    exact (stageRead_last refCfg apd lfo lens lines).trans (apReadMod_refCfg ..)

/-- Settles O49: the signal through the chain is the one the statement asks for, and each of its equations is the law of
the stage. -/
theorem diffuserChainFollowsItsStages : Obligations.DiffuserChainFollowsItsStages := by
  intro g apd lfo x0 lens lines raw dd u
  refine ⟨apClamped_refCfg .., chainSignal refCfg apd lfo lens lines x0, chainSignal_zero .., diffuse_out ..,
    fun k => ?_⟩
  have hread := stageRead_refCfg apd lfo lens lines k
  exact ⟨hread ▸ chainSignal_succ refCfg apd lfo lens lines x0 k,
    hread ▸ diffuse_lines_getElem refCfg g apd lfo lens lines x0 k⟩

end Sys2Proof.Machine

/-! The coefficient registers (spec/43_decay_filter.md): RECOMPUTE in the words of its rules (R121 to R125), when it runs
again (R127), and the peaking section of 0 dB (R124, R126, R130). -/

namespace Sys2Proof.Machine

set_option Elab.async false

/-! ### RECOMPUTE and its owners (R125, R127; 10_state.md R31) -/

/-- RECOMPUTE reads the current values of the coefficient owners only (10_state.md R31). -/
theorem coeffsOf_congr (c : Config) (mode : Mode) (fs fsk : F32) {cur cur' : Vector F32 14}
    (h : ∀ k ∈ coefOwners, cur[k] = cur'[k]) : coeffsOf c mode fs fsk cur = coeffsOf c mode fs fsk cur' := by
  simp only [coefOwners, List.forall_mem_cons, List.not_mem_nil, false_imp_iff, forall_const, and_true] at h
  obtain ⟨h0, h1, h2, h3, h4, h5, h6, h7, h11, h12, h13⟩ := h
  unfold coeffsOf bandTimes
  simp_all only [Fin.getElem_fin, Fin.isValue, Fin.coe_ofNat_eq_mod, Nat.reduceMod]

/-- RETARGET leaves the current value (46_param_smoothing.md R161). -/
@[simp] theorem retarget_cur (ramp : BitVec 16) (t : F32) (m : Smoother) : (retarget ramp t m).cur = m.cur := by
  unfold retarget
  split <;> rfl

/-- ADVANCE leaves an idle record (46_param_smoothing.md R162). -/
theorem advance_of_not_moving {m : Smoother} (h : moving m = false) : advance m = m := by
  simp [advance, h]

/-- SMOOTHSTEP leaves the current value of a record that does not move (46_param_smoothing.md R163). -/
theorem smoothStep_cur_of_not_moving {ramp : BitVec 16} {pt : Vector F32 14} {sm : Vector Smoother 14} {k : Fin 14}
    (h : moving (retargetAll ramp pt sm)[k] = false) : (smoothStep ramp pt sm)[k].cur = sm[k].cur := by
  have hmap : (smoothStep ramp pt sm)[k] = advance (retargetAll ramp pt sm)[k] := Vector.getElem_map ..
  rw [hmap, advance_of_not_moving h, retargetAll, Fin.getElem_fin, Vector.getElem_zipWith, retarget_cur]
  rfl

/-- While no owner moves, RECOMPUTE would compute the same coefficients from the smoothers after SMOOTHSTEP (R127). -/
theorem coeffsOf_smoothStep (c : Config) (mode : Mode) (fs fsk : F32) {ramp : BitVec 16} {pt : Vector F32 14}
    {sm : Vector Smoother 14} (h : smoothChanged ramp pt sm = false) :
    coeffsOf c mode fs fsk (currents (smoothStep ramp pt sm)) = coeffsOf c mode fs fsk (currents sm) := by
  simp only [smoothChanged, List.any_eq_false, Bool.not_eq_true] at h
  refine coeffsOf_congr c mode fs fsk fun k hk => ?_
  simpa only [currents, Fin.getElem_fin, Vector.getElem_map] using smoothStep_cur_of_not_moving (h k hk)

/-! ### The coefficients stay current (R127) -/

section
variable {s t : State}

/-- The invariant reads the coefficients, the mode, the two rates and the smoothers only. -/
theorem CoeffsCurrent.of_eq (h : CoeffsCurrent s) (hk : t.coeffs = s.coeffs) (hmode : t.active.mode = s.active.mode)
    (hset : t.setup = s.setup) (hsm : t.smoothers = s.smoothers) : CoeffsCurrent t := by
  rw [CoeffsCurrent, hk, hmode, hset, hsm]
  exact h

/-- RECOMPUTE establishes the invariant (R125). -/
theorem recompute_coeffsCurrent (s : State) : CoeffsCurrent (recompute refCfg s) := recompute_coeffs refCfg s

/-- RESET and an accepted PREPARE end in RECOMPUTE (47_cmd_lifecycle.md R171, R172). -/
theorem reload_coeffsCurrent (s : State) : CoeffsCurrent (reload refCfg s) := recompute_coeffsCurrent _

/-- A refused PREPARE writes `PREPARED` only, an accepted one reloads (47_cmd_lifecycle.md R171). -/
theorem prepareWith_coeffsCurrent (h : CoeffsCurrent s) (rate block : Operand) :
    CoeffsCurrent (prepareWith refCfg rate block s) := by
  unfold prepareWith
  split
  · exact h
  · exact reload_coeffsCurrent _

/-- SETP writes a target and `S_PCL` only (48_cmd_control.md R180). -/
theorem setpWith_coeffsCurrent (h : CoeffsCurrent s) (idx : Idx) (v : Operand) :
    CoeffsCurrent (setpWith refCfg idx v s) := by
  by_cases hi : idx.toNat < 14
  · rw [setpWith_of_lt refCfg hi, setParam]
    dsimp only
    split <;> exact h
  · rw [setpWith_of_not_lt refCfg hi]
    exact h

/-- A mode switch ends in RECOMPUTE (49_cmd_process.md R191). -/
theorem modeSwitch_coeffsCurrent (h : CoeffsCurrent s) : CoeffsCurrent (modeSwitch refCfg s) := by
  unfold modeSwitch
  split
  · exact h
  · exact recompute_coeffsCurrent _

/-- After a mode switch CONTROLLATCH writes the other controls and the filters only (49_cmd_process.md R191). -/
theorem controlLatch_coeffsCurrent (h : CoeffsCurrent s) : CoeffsCurrent (controlLatch refCfg s) :=
  (modeSwitch_coeffsCurrent h).of_eq (freezeToggle_coeffs _) (freezeToggle_mode _) (freezeToggle_setup _)
    (freezeToggle_smoothers _)

/-- Step P3 recomputes when an owner moved, and else no current value that RECOMPUTE reads changed (R127). -/
theorem smoothPhase_coeffsCurrent (h : CoeffsCurrent s) : CoeffsCurrent (smoothPhase refCfg s) := by
  obtain ⟨-, hset, hact, hsm, -⟩ := smoothPhase_spec refCfg s
  rw [CoeffsCurrent, smoothPhase_coeffs, hset, hact, hsm]
  split
  · rfl
  · next hidle => rw [coeffsOf_smoothStep _ _ _ _ (Bool.not_eq_true _ ▸ hidle), h]

/-- PROCESS runs its phases one after another, or answers only (49_cmd_process.md R190). -/
theorem processWith_coeffsCurrent (h : CoeffsCurrent s) (left right : Operand) :
    CoeffsCurrent (processWith refCfg left right s) := by
  unfold processWith
  split
  · exact smoothPhase_coeffsCurrent (controlLatch_coeffsCurrent h)
  · exact h

/-- Every command keeps the coefficients current. -/
theorem commandWith_coeffsCurrent (h : CoeffsCurrent s) (i : Instr) : CoeffsCurrent (commandWith refCfg i s) := by
  cases i with
  | nop | rdstat | setmode | setfrz | setcpx => exact h
  | prepare rate block => exact prepareWith_coeffsCurrent h rate block
  | reset => exact reload_coeffsCurrent s
  | process left right => exact processWith_coeffsCurrent h left right
  | setp idx v => exact setpWith_coeffsCurrent h idx v

end

/-- Settles O38: a command recomputes after whatever RECOMPUTE reads was written, and RST gives the reset registers. -/
theorem stepKeepsCoeffsCurrent : Obligations.StepKeepsCoeffsCurrent := by
  intro s t hs hstep
  have haccept : CoeffsCurrent (acceptInput s) := hs
  exact step_gives hstep (commandWith_coeffsCurrent haccept) haccept reset_coeffsCurrent

/-! ### The registers RECOMPUTE writes (R121 to R125) -/

section
variable (c : Config) (mode : Mode) (fs fsk : F32) (cur : Vector F32 14) (i : Fin 8)

theorem coeffsOf_len : (coeffsOf c mode fs fsk cur).len[i] = nominalLength c mode fsk cur[1] i :=
  Vector.getElem_ofFn ..

/-- A decay gain is that of the slot's stored length and the band's stored time (R122). -/
theorem coeffsOf_gains :
    (coeffsOf c mode fs fsk cur).gl[i] =
        decayGain c fs (coeffsOf c mode fs fsk cur).len[i] (coeffsOf c mode fs fsk cur).rtl ∧
      (coeffsOf c mode fs fsk cur).gm[i] =
        decayGain c fs (coeffsOf c mode fs fsk cur).len[i] (coeffsOf c mode fs fsk cur).rtm ∧
      (coeffsOf c mode fs fsk cur).gh[i] =
        decayGain c fs (coeffsOf c mode fs fsk cur).len[i] (coeffsOf c mode fs fsk cur).rth :=
  ⟨Vector.getElem_map .., Vector.getElem_map .., Vector.getElem_map ..⟩

/-- RECOMPUTE sets `S_DCL` exactly when a stored length differs from its unclamped one (R125). -/
theorem lengthClamped_iff :
    lengthClamped c mode fsk cur[1] = true ↔
      ∃ i : Fin 8, fne (coeffsOf c mode fs fsk cur).len[i] (rawLength c mode fsk cur[1] i) = true := by
  simp only [lengthClamped, coeffsOf_len, Vector.any_eq_true, Vector.getElem_ofFn, id, Fin.exists_iff]

end

/-- The greatest delay of a network line of `32768` words (R125). -/
theorem maxDelayDl_refCfg : maxDelayDl refCfg = i2f 32767 := congrArg i2f (by decide)

/-- A stored length is the unclamped one between `D_MIN` and the greatest delay (R125). -/
theorem nominalLength_refCfg (mode : Mode) (fsk room : F32) (i : Fin 8) :
    nominalLength refCfg mode fsk room i = fclamp (rawLength refCfg mode fsk room i) 0x3F800000#32 (i2f 32767) := by
  rw [nominalLength, maxDelayDl_refCfg, refCfg]

/-- The constant of a crossover coefficient is `-2 pi` (R123). -/
theorem crossoverCoeff_refCfg (fs corner : F32) :
    crossoverCoeff refCfg fs corner = fsub 0x3F800000#32 (refNum.fexp (fmul 0xC0C90FDB#32 (fdiv corner fs))) := by
  have htwoPi : fneg refCfg.twoPi = 0xC0C90FDB#32 := by decide
  rw [crossoverCoeff, htwoPi, fone, refCfg]

/-- Settles O58, register group by register group. -/
theorem recomputeFollowsItsRules : Obligations.RecomputeFollowsItsRules := by
  intro mode fs fsk cur k floor raw gain corner t amp alpha a0
  refine ⟨rfl, rfl, rfl, fun i => ⟨?_, coeffsOf_gains refCfg mode fs fsk cur i⟩,
    lengthClamped_iff refCfg mode fs fsk cur, crossoverCoeff_refCfg fs cur[6], crossoverCoeff_refCfg fs cur[7],
    rfl, rfl, rfl, rfl, rfl⟩
  exact (coeffsOf_len refCfg mode fs fsk cur i).trans (nominalLength_refCfg mode fsk cur[1] i)

/-! ### Exact products, quotients and sums (40_numerics.md R81, R82) -/

section
variable {a b v z : F32}

/-- A finite number times `q`, over `q`, is rounded to itself. -/
theorem rnd_scaledMag_mul {q : Nat} (hv : isFinite v = true) (hq : 0 < q) :
    rnd (signBit v) (scaledMag v * q) q = v := by
  rw [isFinite_iff] at hv
  have hbits : unboundedMag (scaledMag v * q) q = magBits v := by
    have hnearest := (unboundedMag_nearest (p := scaledMag v * q) hq (magBits v)).1
    rw [← scaledMag_eq, Nat.dist_self, Nat.le_zero] at hnearest
    have hvalue := Nat.eq_of_mul_eq_mul_right hq (Nat.eq_of_dist_eq_zero hnearest)
    exact magValue_strictMono.injective (hvalue.trans (scaledMag_eq v))
  rw [rnd, rndMag_eq, hbits, min_eq_left hv.le, withSign_signBit_magBits]

theorem withSign_of_isZero (hz : isZero v = true) : withSign (signBit v) 0 = v := by
  rw [← isZero_iff.mp hz, withSign_signBit_magBits]

theorem ftz_of_not_isSubnormal (h : isSubnormal v = false) : ftz v = v := daz_of_not_isSubnormal h

theorem isSubnormal_of_isZero (h : isZero v = true) : isSubnormal v = false :=
  isSubnormal_eq_false_iff.mpr (.inl (isZero_iff.mp h))

/-- What the operations ask of the operand 1.0 (R80). -/
theorem fone_class :
    isNaN 0x3F800000#32 = false ∧ isInf 0x3F800000#32 = false ∧ isZero 0x3F800000#32 = false ∧
      isSubnormal 0x3F800000#32 = false ∧ signBit 0x3F800000#32 = false ∧ scaledMag 0x3F800000#32 = 2 ^ 149 := by
  decide +kernel

/-- 1.0 is neutral in a product. -/
theorem fone_fmul (hv : isFinite v = true) (hs : isSubnormal v = false) : fmul 0x3F800000#32 v = v := by
  obtain ⟨nv, iv⟩ := isFinite_class hv
  obtain ⟨hnan, hinf, hzero, hsub, hsign, hmag⟩ := fone_class
  rw [fmul_eq_mulCore hnan nv, daz_of_not_isSubnormal hs, daz_of_not_isSubnormal hsub, mulCore, hmag, Nat.mul_comm]
  simp only [hinf, iv, hzero, hsign, Bool.or_self, Bool.false_or, Bool.false_bne, Bool.false_eq_true, if_false]
  split
  · next hz => exact withSign_of_isZero hz
  · rw [rnd_scaledMag_mul hv (by positivity), ftz_of_not_isSubnormal hs]

theorem fmul_comm_of_isFinite (ha : isFinite a = true) (hb : isFinite b = true) : fmul a b = fmul b a := by
  obtain ⟨na, ia⟩ := isFinite_class ha
  obtain ⟨nb, ib⟩ := isFinite_class hb
  have hcore : mulCore (daz a) (daz b) = mulCore (daz b) (daz a) := by
    simp only [mulCore, isInf_daz, ia, ib, Bool.or_self, Bool.false_eq_true, if_false, bne_comm (a := signBit (daz a)),
      Bool.or_comm (isZero (daz a)), Nat.mul_comm (scaledMag (daz a))]
  rw [fmul_eq_mulCore na nb, fmul_eq_mulCore nb na, hcore]

/-- 1.0 is neutral as a divisor. -/
theorem fdiv_fone (hv : isFinite v = true) (hs : isSubnormal v = false) : fdiv v 0x3F800000#32 = v := by
  obtain ⟨nv, iv⟩ := isFinite_class hv
  obtain ⟨hnan, hinf, hzero, hsub, hsign, hmag⟩ := fone_class
  rw [fdiv_eq_divCore nv hnan, daz_of_not_isSubnormal hs, daz_of_not_isSubnormal hsub, divCore, hmag]
  simp only [hinf, iv, hzero, hsign, Bool.bne_false, Bool.false_eq_true, if_false]
  split
  · next hz => exact withSign_of_isZero hz
  · rw [rnd_scaledMag_mul hv (by positivity), ftz_of_not_isSubnormal hs]

/-- A number over itself is 1.0. -/
theorem fdiv_self_eq_fone (hv : isFinite v = true) (hs : isSubnormal v = false) (hz : isZero v = false) :
    fdiv v v = 0x3F800000#32 := by
  obtain ⟨nv, iv⟩ := isFinite_class hv
  obtain ⟨-, -, -, hsub, hsign, hmag⟩ := fone_class
  have hround := rnd_scaledMag_mul (v := 0x3F800000#32) (by decide) (scaledMag_pos_of_not_isZero hz)
  rw [hmag, Nat.mul_comm, hsign] at hround
  rw [fdiv_eq_divCore nv nv, daz_of_not_isSubnormal hs]
  simp only [divCore, iv, hz, bne_self_eq_false, Bool.false_eq_true, if_false, hround]
  exact ftz_of_not_isSubnormal hsub

theorem isZero_of_scaled_eq_zero (h : scaled v = 0) : isZero v = true := by
  rw [← valueOf_eq_zero_iff, valueOf, h, Int.cast_zero, zero_div]

/-- A sum of zero is a zero. -/
theorem isZero_addCore (op : Nat) (ha : isFinite a = true) (hb : isFinite b = true) (h : scaled a + scaled b = 0) :
    isZero (addCore op a b) = true :=
  isZero_of_scaled_eq_zero ((scaled_addCore op ha hb (.inl h)).trans h)

/-- Equal but for the sign of a zero. -/
def EqUpToZeroSign (y v : F32) : Prop := y = v ∨ isZero v = true ∧ isZero y = true

/-- Such numbers compare equal (R83). -/
theorem EqUpToZeroSign.feq (h : EqUpToZeroSign a v) (hv : isFinite v = true) : feq a v = true := by
  obtain rfl | ⟨hzv, hza⟩ := h
  · rw [feq_iff (isFinite_class hv).1 (isFinite_class hv).1]
  · obtain ⟨-, -, hiff⟩ := comparisons_of_isFinite (isFinite_of_isZero hza) hv
    rw [hiff, valueOf_eq_zero_iff.mpr hza, valueOf_eq_zero_iff.mpr hzv]

/-- A zero added to a number gives the number, but for the sign of a zero. -/
theorem fadd_of_isZero_right (hv : isFinite v = true) (hs : isSubnormal v = false) (hz : isZero z = true) :
    EqUpToZeroSign (fadd v z) v := by
  have hzfin := isFinite_of_isZero hz
  obtain ⟨nv, iv⟩ := isFinite_class hv
  obtain ⟨nz, iz⟩ := isFinite_class hzfin
  have hsum : scaled v + scaled z = scaled v := by rw [scaled_of_isZero hz, Int.add_zero]
  rw [EqUpToZeroSign, fadd_eq_addCore nv nz, daz_of_not_isSubnormal hs,
    daz_of_not_isSubnormal (isSubnormal_of_isZero hz)]
  by_cases hzero : scaled v = 0
  · exact .inr ⟨isZero_of_scaled_eq_zero hzero, isZero_addCore 0 hv hzfin (hsum.trans hzero)⟩
  · left
    have hsign : decide (scaled v < 0) = signBit v := by
      unfold scaled at hzero ⊢
      cases hsv : signBit v
      · simp
      · simpa [hsv, Nat.pos_iff_ne_zero] using hzero
    have hmag : (scaled v).natAbs = scaledMag v * 1 := by
      unfold scaled
      split <;> omega
    simp only [addCore, iv, iz, hsum, hzero, Bool.false_eq_true, if_false]
    rw [hsign, hmag, rnd_scaledMag_mul hv Nat.one_pos, ftz_of_not_isSubnormal hs]

theorem isZero_daz (h : isZero v = true) : isZero (daz v) = true := by
  rwa [daz_of_not_isSubnormal (isSubnormal_of_isZero h)]

/-- The difference of a finite number from itself is a zero. -/
theorem isZero_fsub_self (hv : isFinite v = true) : isZero (fsub v v) = true := by
  obtain ⟨nv, -⟩ := isFinite_class hv
  rw [fsub_eq_addCore nv nv]
  exact isZero_addCore 1 (by rwa [isFinite_daz]) (by rwa [isFinite_fneg, isFinite_daz])
    (by rw [scaled_fneg, Int.add_right_neg])

/-- The difference of two zeros is a zero. -/
theorem isZero_fsub (ha : isZero a = true) (hb : isZero b = true) : isZero (fsub a b) = true := by
  have fa := isFinite_of_isZero ha
  have fb := isFinite_of_isZero hb
  rw [fsub_eq_addCore (isFinite_class fa).1 (isFinite_class fb).1]
  exact isZero_addCore 1 (by rwa [isFinite_daz]) (by rwa [isFinite_fneg, isFinite_daz])
    (by rw [scaled_fneg, scaled_of_isZero (isZero_daz ha), scaled_of_isZero (isZero_daz hb)]; rfl)

/-- A zero over a finite number that is no zero is a zero, of the exclusive-or of the signs. -/
theorem fdiv_of_isZero_left (ha : isZero a = true) (hb : isFinite b = true) (hzero : isZero (daz b) = false) :
    fdiv a b = withSign (signBit a != signBit b) 0 := by
  obtain ⟨na, ia⟩ := isFinite_class (isFinite_of_isZero ha)
  obtain ⟨nb, ib⟩ := isFinite_class hb
  simp [fdiv_eq_divCore na nb, divCore, ia, ib, isZero_daz ha, hzero]

/-- A finite number times a zero is a zero. -/
theorem isZero_fmul (ha : isFinite a = true) (hz : isZero z = true) : isZero (fmul a z) = true := by
  obtain ⟨na, ia⟩ := isFinite_class ha
  obtain ⟨nz, iz⟩ := isFinite_class (isFinite_of_isZero hz)
  have hprod : fmul a z = withSign (signBit a != signBit z) 0 := by
    simp [fmul_eq_mulCore na nz, mulCore, ia, iz, isZero_daz hz]
  rw [hprod, isZero_iff, magBits_withSign_zero]

/-- Only a finite number times a zero is finite. -/
theorem isFinite_of_isFinite_fmul (h : isFinite (fmul a z) = true) (hz : isZero z = true) : isFinite a = true := by
  by_contra ha
  obtain ⟨hnum, -⟩ := isFinite_class h
  obtain ⟨nz, -⟩ := isFinite_class (isFinite_of_isZero hz)
  have na : isNaN a = false := by
    by_contra hnan
    obtain ⟨-, -, hmul, -⟩ := isNaN_operations (b := z) (.inl (Bool.not_eq_false _ ▸ hnan))
    exact Bool.false_ne_true (hnum.symm.trans hmul)
  have ia : isInf (daz a) = true := by
    rw [isInf_daz, isInf_iff]
    rw [isFinite_iff] at ha
    rw [← Bool.not_eq_true, isNaN_iff] at na
    omega
  have hcore := mulCore_of_isInf (b := daz z) (.inl ia)
  rw [isZero_daz hz, Bool.or_true, if_pos rfl, ← fmul_eq_mulCore na nz, hnum] at hcore
  exact Bool.false_ne_true hcore

/-- The sum of two zeros is a zero. -/
theorem isZero_fadd (ha : isZero a = true) (hb : isZero b = true) : isZero (fadd a b) = true := by
  obtain h | ⟨-, h⟩ := fadd_of_isZero_right (isFinite_of_isZero ha) (isSubnormal_of_isZero ha) hb
  · rwa [h]
  · exact h

end

/-! ### The peaking section of 0 dB (R124, R126, R130) -/

/-- The amplitude of a zero gain is 1.0: a zero over 40.0 is a zero, and `pow10` of it is 1.0 (R124). -/
theorem pow10_zero_gain {c : Config} {gdb : F32} (hgdb : isZero gdb = true)
    (hplus : c.num.pow10 0x00000000#32 = 0x3F800000#32) (hminus : c.num.pow10 0x80000000#32 = 0x3F800000#32) :
    c.num.pow10 (fdiv gdb forty) = 0x3F800000#32 := by
  rw [fdiv_of_isZero_left hgdb (by decide) (by decide), withSign_zero_eq]
  split
  · exact hminus
  · exact hplus

/-- `1.0 + alpha` is not a zero for an `alpha` that is not negative: its magnitude is at least that of 1.0. -/
theorem isZero_fone_fadd {x : F32} (hx : isFinite x = true) (hs : isSubnormal x = false)
    (hnonneg : fle 0x00000000#32 x = true) : isZero (fadd 0x3F800000#32 x) = false := by
  obtain ⟨nx, ix⟩ := isFinite_class hx
  have hone : isInf 0x3F800000#32 = false ∧ scaled 0x3F800000#32 = 2 ^ 149 := by decide +kernel
  obtain ⟨hinf, hscaled⟩ := hone
  have hpos := scaled_nonneg hx hnonneg
  have hne : (2 ^ 149 + scaled x : Int) ≠ 0 := by positivity
  have hsum : fadd 0x3F800000#32 x = ftz (rnd (decide (2 ^ 149 + scaled x < 0)) (2 ^ 149 + scaled x).natAbs 1) := by
    rw [fadd_eq_addCore (by decide) nx, daz_of_not_isSubnormal (by decide), daz_of_not_isSubnormal hs]
    simp only [addCore, hinf, ix, hscaled, hne, Bool.false_eq_true, if_false]
  have hleast : flushMag (rndMag (2 ^ 149) 1) = 0x3F800000 := by decide +kernel
  have hmono : flushMag (rndMag (2 ^ 149) 1) ≤ flushMag (rndMag (2 ^ 149 + scaled x).natAbs 1) :=
    flushMag_mono (rndMag_mono Nat.one_pos (by omega))
  rw [hsum, ← Bool.not_eq_true, isZero_iff, magBits_ftz, magBits_rnd]
  omega

/-- With the amplitude 1.0 the numerator and the denominator of the section have the same coefficients (R124). -/
theorem peaking_of_unit_amplitude {c : Config} {fs f0 q gdb : F32}
    (hamp : c.num.pow10 (fdiv gdb forty) = 0x3F800000#32)
    (halpha : isFinite (fdiv (c.num.sin2pi (fmin (fdiv f0 fs) c.tMax)) (fmul ftwo q)) = true) :
    peaking c fs f0 q gdb =
      let alpha := fdiv (c.num.sin2pi (fmin (fdiv f0 fs) c.tMax)) (fmul ftwo q)
      let a0 := fadd fone alpha
      let b1 := fdiv (fmul fminus2 (c.num.cos2pi (fmin (fdiv f0 fs) c.tMax))) a0
      let b2 := fdiv (fsub fone alpha) a0
      { b0 := fdiv a0 a0, b1 := b1, b2 := b2, a1 := b1, a2 := b2 } := by
  have hflushed := isSubnormal_fdiv (c.num.sin2pi (fmin (fdiv f0 fs) c.tMax)) (fmul ftwo q)
  simp only [peaking, hamp]
  rw [fdiv_fone halpha hflushed, fmul_comm_of_isFinite halpha (by decide), fone_fmul halpha hflushed]

/-- With equal coefficients in the numerator and the denominator, what the band sum and the output feed back cancels where
the two are equal but for the sign of a zero (R126). -/
theorem isZero_fsub_fmul {b v y : F32} (hfin : isFinite (fmul b v) = true)
    (hy : EqUpToZeroSign y v) : isZero (fsub (fmul b v) (fmul b y)) = true := by
  obtain rfl | ⟨hzv, hzy⟩ := hy
  · exact isZero_fsub_self hfin
  · have hb := isFinite_of_isFinite_fmul hfin hzv
    exact isZero_fsub (isZero_fmul hb hzv) (isZero_fmul hb hzy)

/-- The output of DECAY, from the band sum (R126). -/
theorem decay_out (k : Coeffs) (i : Fin 8) (f : SlotFilter) (x : F32) :
    (decay k i f x).out = fadd (fmul k.b0 (bandSum k i (onePole k.clo f.lp1 x) (onePole k.chi f.lp2 x) x)) f.z1 := rfl

/-- The biquad's state after DECAY, from the band sum and the output (R126). -/
theorem decay_biquad (k : Coeffs) (i : Fin 8) (f : SlotFilter) (x : F32) :
    let v := bandSum k i (onePole k.clo f.lp1 x) (onePole k.chi f.lp2 x) x
    let y := (decay k i f x).out
    (decay k i f x).filter.z1 = fadd (fsub (fmul k.b1 v) (fmul k.a1 y)) f.z2 ∧
      (decay k i f x).filter.z2 = fsub (fmul k.b2 v) (fmul k.a2 y) := ⟨rfl, rfl⟩

/-- Settles O60: with the amplitude 1.0 both products and quotients of `alpha` are `alpha`; and then the output is the
band sum but for the sign of a zero, so that both differences fed back are zeros. -/
theorem flatPeakingIsIdentity : Obligations.FlatPeakingIsIdentity := by
  constructor
  · intro c fs f0 q gdb hgdb hplus hminus ⟨hfin, hnonneg, ha0⟩
    have hpk := peaking_of_unit_amplitude (fs := fs) (f0 := f0) (q := q) (pow10_zero_gain hgdb hplus hminus) hfin
    rw [hpk]
    exact ⟨fdiv_self_eq_fone ha0 (isSubnormal_fadd ..) (isZero_fone_fadd hfin (isSubnormal_fdiv ..) hnonneg), rfl, rfl⟩
  · intro k i f x hb0 hb1 hb2 hz1 hz2 v ⟨hv, hfin1, hfin2⟩
    have hflushed : isSubnormal v = false := isSubnormal_fadd ..
    have hy : EqUpToZeroSign (decay k i f x).out v := by
      rw [decay_out, hb0, fone_fmul hv hflushed]
      exact fadd_of_isZero_right hv hflushed hz1
    obtain ⟨hz1', hz2'⟩ := decay_biquad k i f x
    rw [hz1', hz2', ← hb1, ← hb2]
    exact ⟨hy.feq hv, isZero_fadd (isZero_fsub_fmul hfin1 hy) hz2, isZero_fsub_fmul hfin2 hy⟩

end Sys2Proof.Machine

/-! The network of lines, one sample (spec/44_fdn_core.md): the mixer (R138), the feedback clamp (R140, R143 (a)) and the
freeze (R142). -/

namespace Sys2Proof.Machine

set_option Elab.async false

/-! ### The feedback clamp bounds the network words (R140, R143 (a)) -/

/-- A clamp lies between its bounds where zero does, which is what it gives for a NaN (40_numerics.md R84). -/
theorem within_fclamp_of_zero {lo hi : F32} (h : within lo hi fzero = true) (x : F32) :
    within lo hi (fclamp x lo hi) = true := by
  have hle : fle lo hi = true := by
    simp only [within, fle, Bool.and_eq_true, Bool.not_eq_true', decide_eq_true_eq] at h ⊢
    obtain ⟨⟨⟨hlo, -⟩, hle⟩, ⟨-, hhi⟩, hle'⟩ := h
    exact ⟨⟨hlo, hhi⟩, hle.trans hle'⟩
  cases hx : isNaN x with
  | false => exact within_fclamp hx hle
  | true => rwa [fclamp, if_pos hx]

/-- Whatever the clamp is given, NaN among it, it gives a word in the feedback range (R140). -/
theorem withinFeedback_feedbackClamp (v : F32) : withinFeedback (feedbackClamp refCfg v) = true :=
  within_fclamp_of_zero (by decide) v

/-- A write to a network line is clamped, and no other operation on a line adds a word. -/
theorem feedbackRange_keptByLineOps :
    KeptByLineOps refCfg (fun l => allWords withinFeedback l.buf = true) (fun _ => True) where
  clear_dl := rfl
  clear_ap := trivial
  write_dl _ v h := allWords_memWrite h _ (withinFeedback_feedbackClamp v)
  write_ap _ _ _ := trivial
  rewind_dl _ h := h
  rewind_ap _ _ := trivial

/-- Settles O39: the feedback range is kept by every operation on a network line, and so by every step. -/
theorem stepKeepsNetworkWordsBounded : Obligations.StepKeepsNetworkWordsBounded := by
  intro s t hs hstep
  exact (step_linesAll feedbackRange_keptByLineOps ⟨hs, fun _ _ => trivial⟩ hstep).1

/-! ### The mixer (R138) -/

/-- A slot after a butterfly stage: the sum of its pair in the lower slot, the difference in the upper (R138). -/
theorem butterfly_getElem (stride i : Fin 8) (m : Vector F32 8) :
    (butterfly stride m)[i] =
      if i &&& stride = 0 then fadd m[i] m[i ^^^ stride] else fsub m[i ^^^ stride] m[i] :=
  Vector.getElem_ofFn ..

/-- The mixer is its three stages, scaled (R138). -/
theorem hadamard_getElem (c : Config) (f : Vector F32 8) (i : Fin 8) :
    (hadamard c f)[i] = fmul c.hscale (butterfly 4 (butterfly 2 (butterfly 1 f)))[i] :=
  Vector.getElem_map ..

/-- Settles O50: each stage pairs the nodes of one level of the tree, and the slot's bit of that level says which of the
pair's two results the slot gets. -/
theorem hadamardIsBalancedTree : Obligations.HadamardIsBalancedTree := by
  intro f i
  rw [hadamard_getElem]
  refine congrArg (fmul refCfg.hscale) ?_
  match i with
  | 0 | 1 | 2 | 3 | 4 | 5 | 6 | 7 =>
    simp only [butterfly_getElem, Fin.reduceAnd, Fin.reduceXor, Fin.isValue, Fin.reduceEq, if_true, if_false]
    simp [Nat.testBit]

/-! ### The freeze (R137, R139, R142; 43_decay_filter.md R128, R129) -/

/-- While frozen nothing is injected, so a sample of the network does not see the diffused samples (R139, R142). -/
theorem fdnStep_frozen (c : Config) (k : Coeffs) (f : Vector SlotFilter 8) (dl : Vector (Line 15) 8)
    (uL uR uL' uR' d : F32) (mods : Vector F32 8) :
    fdnStep c true k f dl uL uR d mods = fdnStep c true k f dl uL' uR' d mods := by
  simp only [fdnStep, fdnSums, inject, if_true]

/-- While frozen the filters keep their states (43_decay_filter.md R128). -/
theorem fdnStep_frozen_filters (c : Config) (k : Coeffs) (f : Vector SlotFilter 8) (dl : Vector (Line 15) 8)
    (uL uR d : F32) (mods : Vector F32 8) : (fdnStep c true k f dl uL uR d mods).filters = f := by
  simp only [fdnStep, if_true]

/-- The active freeze after steps P1 to P3 is the target (49_cmd_process.md R191). -/
theorem smoothPhase_controlLatch_frz (c : Config) (s : State) :
    (smoothPhase c (controlLatch c s)).active.frz = s.targets.frzT := by
  obtain ⟨-, -, hact, -⟩ := smoothPhase_spec c (controlLatch c s)
  obtain ⟨-, -, -, hlatch⟩ := controlLatch_spec c s
  rw [hact, hlatch]

/-- The filter states after steps P1 to P3: cleared by a mode switch and by a freeze toggle (49_cmd_process.md R191). -/
theorem smoothPhase_controlLatch_filters (s : State) :
    (smoothPhase refCfg (controlLatch refCfg s)).filters = Vector.ofFn (latchedFilter s) := by
  obtain ⟨-, -, -, -, hfilters, -⟩ := smoothPhase_spec refCfg (controlLatch refCfg s)
  rw [hfilters]
  ext i hi
  rw [Vector.getElem_ofFn]
  exact controlLatch_filter s ⟨i, hi⟩

/-- The network's part of the sample phase: step P6, on the diffused samples of step P5 (49_cmd_process.md R190). -/
def networkStep (c : Config) (left right : Operand) (s : State) : FdnResult :=
  let lfo := lfoOut c s.active.cpx s.modulation
  fdnStep c s.active.frz s.coeffs s.filters s.dl (diffuseChannel c 0 lfo.lfoA[8] left s).out
    (diffuseChannel c 1 lfo.lfoA[9] right s).out (depthSamples s) lfo.mods

/-- The sample phase stores and answers what the network gives (49_cmd_process.md R190). -/
theorem samplePhase_network (c : Config) (left right : Operand) (s : State) :
    (samplePhase c left right s).dl = (networkStep c left right s).dl ∧
      (samplePhase c left right s).filters = (networkStep c left right s).filters ∧
      (samplePhase c left right s).rsp =
        some (.audio (rsp64 (networkStep c left right s).outL (networkStep c left right s).outR)) :=
  ⟨rfl, rfl, rfl⟩

/-- While frozen the network's part does not depend on the operands (R142). -/
theorem networkStep_frozen (c : Config) (left right left' right' : Operand) {s : State} (h : s.active.frz = true) :
    networkStep c left' right' s = networkStep c left right s := by
  simp only [networkStep, h]
  exact fdnStep_frozen ..

/-- While frozen the sample phase leaves the filter states (43_decay_filter.md R128). -/
theorem networkStep_frozen_filters (c : Config) (left right : Operand) {s : State} (h : s.active.frz = true) :
    (networkStep c left right s).filters = s.filters := by
  simp only [networkStep, h, fdnStep_frozen_filters]

/-- Settles O26: the latched freeze is on, so the network does not see the operands, and the filters keep the states that
CONTROLLATCH left. -/
theorem frozenNetworkIgnoresInput : Obligations.FrozenNetworkIgnoresInput := by
  intro left right left' right' s hprep hfrz
  have hfrozen := (smoothPhase_controlLatch_frz refCfg s).trans hfrz
  obtain ⟨hdl, hfilters, hrsp⟩ := samplePhase_network refCfg left right (smoothPhase refCfg (controlLatch refCfg s))
  obtain ⟨hdl', hfilters', hrsp'⟩ := samplePhase_network refCfg left' right' (smoothPhase refCfg (controlLatch refCfg s))
  rw [networkStep_frozen refCfg left right left' right' hfrozen] at hdl' hfilters' hrsp'
  refine ⟨_, _, exec_process_prepared left right hprep, exec_process_prepared left' right' hprep,
    hdl'.trans hdl.symm, hfilters'.trans hfilters.symm, hrsp'.trans hrsp.symm, ?_⟩
  rw [hfilters, networkStep_frozen_filters refCfg left right hfrozen, smoothPhase_controlLatch_filters]
  ext i hi
  rw [Vector.getElem_ofFn, latchedFilter, hfrz]
  by_cases hmode : s.targets.modeT = s.active.mode <;> cases hact : s.active.frz <;> simp [hmode]

end Sys2Proof.Machine

/-! Bounds on the values of results: a result is the flushed rounding of its exact value, so it stays between any two
numbers the exact value lies between, and it is as near to the exact value as 24 bits allow (spec/40_numerics.md R81,
R82). -/

namespace Sys2Proof.Machine

set_option Elab.async false

/-! ### Values and flushes (40_numerics.md R80, R81) -/

theorem abs_valueOf (v : F32) : |valueOf v| = scaledMag v / 2 ^ 149 := by
  rw [valueOf_eq, abs_signedValue, Nat.cast_one, mul_one]

/-- The value an operation sees in an operand: that of the flushed operand (R81). -/
def operandValue (v : F32) : ℚ := valueOf (daz v)

theorem operandValue_of_not_isSubnormal {v : F32} (h : isSubnormal v = false) : operandValue v = valueOf v := by
  rw [operandValue, daz_of_not_isSubnormal h]

theorem operandValue_of_isZero {v : F32} (h : isZero v = true) : operandValue v = 0 :=
  valueOf_eq_zero_iff.mpr (isZero_daz h)

/-- A flush leaves a number, or gives a zero for one that is smaller than the least normal number. -/
theorem valueOf_ftz_cases (v : F32) :
    valueOf (ftz v) = valueOf v ∨ valueOf (ftz v) = 0 ∧ |valueOf v| < 1 / 2 ^ 126 := by
  cases h : isSubnormal v with
  | false => exact .inl (operandValue_of_not_isSubnormal h)
  | true =>
    have hlow := (isSubnormal_iff.mp h).2
    refine .inr ⟨valueOf_eq_zero_iff.mpr ?_, ?_⟩
    · rw [isZero_iff, magBits_ftz, flushMag, if_pos hlow]
    · have hmag : scaledMag v < 2 ^ 23 := by
        rw [scaledMag_eq, show 2 ^ 23 = magValue (2 ^ 23) by decide]
        exact magValue_strictMono hlow
      rw [abs_valueOf, div_lt_iff₀ (by positivity)]
      calc (scaledMag v : ℚ) < 2 ^ 23 := mod_cast hmag
        _ = 1 / 2 ^ 126 * 2 ^ 149 := by norm_num

/-- The greatest finite magnitude lies below the overflow limit (R81). -/
theorem abs_valueOf_lt_limit {v : F32} (h : isFinite v = true) : |valueOf v| < (2 ^ 25 - 1) * 2 ^ 103 := by
  have hle : scaledMag v ≤ 16777215 * 2 ^ 253 := by
    rw [scaledMag_eq, show 16777215 * 2 ^ 253 = magValue (infMag - 1) by decide +kernel]
    exact magValue_strictMono.monotone (Nat.le_sub_one_of_lt (isFinite_iff.mp h))
  rw [abs_valueOf, div_lt_iff₀ (by positivity)]
  calc (scaledMag v : ℚ) ≤ 16777215 * 2 ^ 253 := by exact_mod_cast hle
    _ < (2 ^ 25 - 1) * 2 ^ 103 * 2 ^ 149 := by norm_num

/-! ### Roundings (40_numerics.md R81) -/

/-- The magnitude nearest to `p / q` is no further away than half a unit of its 24th bit, or half the least subnormal
number. -/
theorem dist_unboundedMag_le (p : Nat) {q : Nat} (hq : 0 < q) :
    2 ^ 24 * Nat.dist (magValue (unboundedMag p q) * q) p ≤ max p (2 ^ 23 * q) := by
  rw [magValue_unboundedMag hq]
  generalize hk : Nat.log2 (p / q) - 23 = k
  have hQ : 0 < q * 2 ^ k := by positivity
  have hnear := (roundHalfEven_near p hQ).1
  rw [Nat.mul_right_comm, Nat.mul_assoc _ q]
  obtain rfl | hpos := Nat.eq_zero_or_pos k
  · omega
  · have hleast := spacing_le (p := p) (q := q) (by omega)
    rw [hk, Nat.le_div_iff_mul_le hQ] at hleast
    omega

/-- A rational number that is not zero is a signed magnitude. -/
theorem exists_signedValue {x : ℚ} (hx : x ≠ 0) : ∃ s p q, 0 < p ∧ 0 < q ∧ x = signedValue s p q := by
  refine ⟨decide (x.num < 0), x.num.natAbs * 2 ^ 149, x.den,
    Nat.mul_pos (Int.natAbs_pos.mpr (Rat.num_ne_zero.mpr hx)) (by positivity), x.den_pos, ?_⟩
  have hden : (2 ^ 149 * x.den : ℚ) ≠ 0 := by have := x.den_pos; positivity
  rw [signedValue, signedMag_mul, signedMag_natAbs, eq_div_iff hden]
  push_cast
  rw [mul_comm ((2 : ℚ) ^ 149), ← mul_assoc, Rat.mul_den_eq_num]
  norm_num

section
variable {x : ℚ} {u v : F32}

theorem IsRounding.isFinite_of_lt (h : IsRounding x u) (hx : |x| < (2 ^ 25 - 1) * 2 ^ 103) : isFinite u = true := by
  rw [IsRounding, if_neg hx.not_ge] at h
  exact h.1

/-- No finite number is nearer than a finite rounding. -/
theorem IsRounding.nearest (h : IsRounding x u) (hx : |x| < (2 ^ 25 - 1) * 2 ^ 103) (hv : isFinite v = true) :
    |valueOf u - x| ≤ |valueOf v - x| := by
  rw [IsRounding, if_neg hx.not_ge] at h
  exact (h.2.2 v hv).1

/-- A rounding is as near as 24 bits allow. -/
theorem IsRounding.error (h : IsRounding x u) (hx : |x| < (2 ^ 25 - 1) * 2 ^ 103) :
    |valueOf u - x| ≤ max |x| (1 / 2 ^ 126) / 2 ^ 24 := by
  by_cases hzero : x = 0
  · have hnear := h.nearest (v := 0#32) hx (by decide)
    rw [hzero, show valueOf 0#32 = 0 by rw [valueOf_eq_zero_iff]; decide] at hnear
    rw [hzero]
    exact hnear.trans (by norm_num)
  · obtain ⟨s, p, q, hp, hq, hvalue⟩ := exists_signedValue hzero
    have hden : (0 : ℚ) < 2 ^ 149 * q := by positivity
    have hfin := (hvalue ▸ isRounding_rnd s hp hq : IsRounding x (rnd s p q)).isFinite_of_lt hx
    have habs : |x| = p / (2 ^ 149 * q) := by rw [hvalue, abs_signedValue]
    have hmag : scaledMag (rnd s p q) = magValue (unboundedMag p q) := by
      rw [isFinite_iff, magBits_rnd] at hfin
      rw [scaledMag_eq, magBits_rnd]
      rw [rndMag_eq] at hfin ⊢
      rw [min_eq_left (by omega)]
    calc |valueOf u - x| ≤ |valueOf (rnd s p q) - x| := h.nearest hx hfin
      _ = (Nat.dist (magValue (unboundedMag p q) * q) p : ℕ) / (2 ^ 149 * q) := by
        conv_lhs => rw [hvalue]
        rw [abs_valueOf_sub _ s hq, if_pos (signBit_rnd s p q), hmag]
      _ ≤ (max p (2 ^ 23 * q) : ℕ) / 2 ^ 24 / (2 ^ 149 * q) := by
        gcongr
        rw [le_div_iff₀ (by positivity), mul_comm]
        exact_mod_cast dist_unboundedMag_le p hq
      _ = max |x| (1 / 2 ^ 126) / 2 ^ 24 := by
        rw [habs, div_right_comm]
        push_cast
        rw [← max_div_div_right hden.le]
        congr 2
        field_simp
        norm_num

end

/-! ### Results of operations (40_numerics.md R81, R82) -/

/-- `z` is the result of an operation whose exact result is `x`: the flushed rounding of `x`, or a zero for zero. -/
def Rounds (x : ℚ) (z : F32) : Prop := x = 0 ∧ isZero z = true ∨ ∃ u, IsRounding x u ∧ z = ftz u

theorem isZero_withSign_zero (s : Bool) : isZero (withSign s 0) = true := isZero_iff.mpr (magBits_withSign_zero s)

/-- A result is a zero where the exact one is, and else a flushed rounding. -/
theorem rounds_of_ite {x : ℚ} {z : F32} {s : Bool}
    (h : if x = 0 then z = withSign s 0 else ∃ u, IsRounding x u ∧ z = ftz u) : Rounds x z := by
  split_ifs at h with hx
  · exact .inl ⟨hx, h ▸ isZero_withSign_zero s⟩
  · exact .inr h

section
variable {a b : F32} (ha : isFinite a = true) (hb : isFinite b = true)
include ha hb

/-- The operations on finite operands round their exact results. -/
theorem fadd_rounds : Rounds (operandValue a + operandValue b) (fadd a b) := by
  rw [fadd_eq_addCore (isFinite_class ha).1 (isFinite_class hb).1]
  exact rounds_of_ite (addCore_rounds 0 (by rwa [isFinite_daz]) (by rwa [isFinite_daz]))

theorem fsub_rounds : Rounds (operandValue a - operandValue b) (fsub a b) := by
  rw [fsub_eq_addCore (isFinite_class ha).1 (isFinite_class hb).1, operandValue, operandValue, sub_eq_add_neg,
    ← valueOf_fneg]
  exact rounds_of_ite (addCore_rounds 1 (by rwa [isFinite_daz]) (by rwa [isFinite_fneg, isFinite_daz]))

theorem fmul_rounds : Rounds (operandValue a * operandValue b) (fmul a b) := by
  rw [fmul_eq_mulCore (isFinite_class ha).1 (isFinite_class hb).1]
  exact rounds_of_ite (mulCore_rounds (by rwa [isFinite_daz]) (by rwa [isFinite_daz]))

theorem fdiv_rounds (hne : operandValue b ≠ 0) : Rounds (operandValue a / operandValue b) (fdiv a b) := by
  rw [fdiv_eq_divCore (isFinite_class ha).1 (isFinite_class hb).1]
  have hdiv := divCore_rounds (a := daz a) (by rwa [isFinite_daz]) (by rwa [isFinite_daz]) hne
  split_ifs at hdiv with hzero
  · exact .inl ⟨by rw [operandValue, hzero, zero_div], hdiv ▸ isZero_withSign_zero _⟩
  · exact .inr hdiv

end

/-- A rational number that is the value of a number which no operation flushes. -/
def Representable (q : ℚ) : Prop := ∃ v, isFinite v = true ∧ isSubnormal v = false ∧ valueOf v = q

theorem representable_valueOf {v : F32} (hfin : isFinite v = true) (hsub : isSubnormal v = false) :
    Representable (valueOf v) := ⟨v, hfin, hsub, rfl⟩

theorem representable_int {n : Int} (h : n.natAbs ≤ 2 ^ 24) : Representable n := by
  obtain ⟨hfin, hscaled⟩ := i2f_exact h
  exact ⟨i2f n, hfin, isSubnormal_i2f n, by rw [valueOf, hscaled, cast_units_div]⟩

theorem representable_zero : Representable 0 := by simpa using representable_int (n := 0) (by decide)

/-- No operation gives a number between zero and the least normal one. -/
theorem Representable.eq_zero_or_le {q : ℚ} (h : Representable q) : q = 0 ∨ 1 / 2 ^ 126 ≤ |q| := by
  obtain ⟨v, -, hsub, rfl⟩ := h
  obtain hzero | hnormal := isSubnormal_eq_false_iff.mp hsub
  · exact .inl (valueOf_eq_zero_iff.mpr (isZero_iff.mpr hzero))
  · have hmag : 2 ^ 23 ≤ scaledMag v := by
      rw [scaledMag_eq, show 2 ^ 23 = magValue (2 ^ 23) by decide]
      exact magValue_strictMono.monotone hnormal
    right
    rw [abs_valueOf, le_div_iff₀ (by positivity)]
    calc 1 / 2 ^ 126 * 2 ^ 149 = (2 ^ 23 : ℚ) := by norm_num
      _ ≤ scaledMag v := by exact_mod_cast hmag

theorem Representable.abs_lt {q : ℚ} (h : Representable q) : |q| < (2 ^ 25 - 1) * 2 ^ 103 := by
  obtain ⟨v, hfin, -, rfl⟩ := h
  exact abs_valueOf_lt_limit hfin

/-- A flush moves no number across a representable one. -/
theorem valueOf_ftz_between {lo hi : ℚ} {u : F32} (hlo : Representable lo) (hhi : Representable hi) (h : lo ≤ valueOf u)
    (h' : valueOf u ≤ hi) : lo ≤ valueOf (ftz u) ∧ valueOf (ftz u) ≤ hi := by
  obtain heq | ⟨hzero, hsmall⟩ := valueOf_ftz_cases u
  · exact heq ▸ ⟨h, h'⟩
  · rw [abs_lt] at hsmall
    have hlo0 : lo ≤ 0 := hlo.eq_zero_or_le.elim Eq.le fun hnormal => by
      by_contra hpos
      rw [abs_of_pos (by linarith)] at hnormal
      linarith
    have hhi0 : 0 ≤ hi := hhi.eq_zero_or_le.elim Eq.ge fun hnormal => by
      by_contra hneg
      rw [abs_of_neg (by linarith)] at hnormal
      linarith
    exact hzero ▸ ⟨hlo0, hhi0⟩

section
variable {x : ℚ} {z : F32}

theorem Rounds.isSubnormal (h : Rounds x z) : isSubnormal z = false := by
  obtain ⟨-, hz⟩ | ⟨u, -, rfl⟩ := h
  · exact isSubnormal_of_isZero hz
  · exact isSubnormal_ftz u

/-- No operation flushes a result. -/
theorem Rounds.operandValue (h : Rounds x z) : operandValue z = valueOf z :=
  operandValue_of_not_isSubnormal h.isSubnormal

/-- A result lies between any two representable numbers that the exact result lies between. -/
theorem Rounds.between {lo hi : ℚ} (h : Rounds x z) (hlo : Representable lo) (hhi : Representable hi) (hx : lo ≤ x)
    (hx' : x ≤ hi) : isFinite z = true ∧ lo ≤ valueOf z ∧ valueOf z ≤ hi := by
  obtain ⟨rfl, hz⟩ | ⟨u, hu, rfl⟩ := h
  · rw [valueOf_eq_zero_iff.mpr hz]
    exact ⟨isFinite_of_isZero hz, hx, hx'⟩
  have hlimit : |x| < (2 ^ 25 - 1) * 2 ^ 103 := by
    have := abs_lt.mp hlo.abs_lt
    have := abs_lt.mp hhi.abs_lt
    exact abs_lt.mpr ⟨by linarith, by linarith⟩
  have hfin := hu.isFinite_of_lt hlimit
  refine ⟨(isFinite_daz u).trans hfin, ?_⟩
  have hbounds : lo ≤ valueOf u ∧ valueOf u ≤ hi := by
    obtain ⟨l, hl, -, rfl⟩ := hlo
    obtain ⟨k, hk, -, rfl⟩ := hhi
    have hnearl := hu.nearest hlimit hl
    have hneark := hu.nearest hlimit hk
    rw [abs_of_nonpos (by linarith : valueOf l - x ≤ 0), abs_le] at hnearl
    rw [abs_of_nonneg (by linarith : 0 ≤ valueOf k - x), abs_le] at hneark
    exact ⟨by linarith, by linarith⟩
  exact valueOf_ftz_between hlo hhi hbounds.1 hbounds.2

/-- A representable result is exact. -/
theorem Rounds.exact (h : Rounds x z) (hx : Representable x) : isFinite z = true ∧ valueOf z = x := by
  obtain ⟨hfin, hlow, hhigh⟩ := h.between hx hx le_rfl le_rfl
  exact ⟨hfin, hhigh.antisymm hlow⟩

/-- The bound of the results the following lemmas speak of: far from the overflow limit, and representable. -/
theorem representable_two_pow_100 : Representable (2 ^ 100) :=
  ⟨0x71800000#32, by decide, by decide, by rw [valueOf, show scaled 0x71800000#32 = 2 ^ 249 by decide +kernel]; norm_num⟩

theorem representable_neg_two_pow_100 : Representable (-2 ^ 100) :=
  ⟨0xF1800000#32, by decide, by decide, by rw [valueOf, show scaled 0xF1800000#32 = -2 ^ 249 by decide +kernel]; norm_num⟩

theorem Rounds.isFinite (h : Rounds x z) (hx : |x| ≤ 2 ^ 100) : isFinite z = true :=
  (h.between representable_neg_two_pow_100 representable_two_pow_100 (abs_le.mp hx).1 (abs_le.mp hx).2).1

/-- A result errs by its 24th bit, and by what a flush takes away. -/
theorem Rounds.error (h : Rounds x z) (hx : |x| ≤ 2 ^ 100) : |valueOf z - x| ≤ |x| / 2 ^ 24 + 1 / 2 ^ 125 := by
  have hpos := abs_nonneg x
  obtain ⟨rfl, hz⟩ | ⟨u, hu, rfl⟩ := h
  · rw [valueOf_eq_zero_iff.mpr hz]
    norm_num
  have herr := hu.error (hx.trans_lt (by norm_num))
  have hmax : max |x| (1 / 2 ^ 126) ≤ |x| + 1 / 2 ^ 126 := max_le (by linarith) (by linarith)
  obtain heq | ⟨hzero, hsmall⟩ := valueOf_ftz_cases u
  · rw [heq]
    linarith
  · have htri := abs_sub_abs_le_abs_sub x (valueOf u)
    rw [abs_sub_comm] at htri
    rw [hzero, zero_sub, abs_neg]
    linarith

/-- A result is greater in magnitude than the exact one by at most its 23rd bit. -/
theorem Rounds.abs_le_mul (h : Rounds x z) (hx : |x| ≤ 2 ^ 100) : |valueOf z| ≤ |x| * (1 + 1 / 2 ^ 23) := by
  obtain ⟨rfl, hz⟩ | ⟨u, hu, rfl⟩ := h
  · rw [valueOf_eq_zero_iff.mpr hz]
    norm_num
  have herr := hu.error (hx.trans_lt (by norm_num))
  have hnormal := (representable_valueOf ((isFinite_daz u).trans (hu.isFinite_of_lt (hx.trans_lt (by norm_num))))
    (isSubnormal_ftz u)).eq_zero_or_le
  obtain heq | ⟨hzero, -⟩ := valueOf_ftz_cases u
  · rw [show valueOf (daz u) = valueOf u from heq] at hnormal
    rw [heq]
    have htri := abs_sub_abs_le_abs_sub (valueOf u) x
    obtain hle | hgt := le_total (1 / 2 ^ 126) |x|
    · rw [max_eq_left hle] at herr
      linarith
    · rw [max_eq_right hgt] at herr
      obtain hzero | hnormal := hnormal
      · rw [hzero, abs_zero]
        positivity
      · linarith
  · rw [hzero, abs_zero]
    positivity

/-- A result is a multiple of the exact one, by a factor that is not negative and at most one 23rd bit above 1. -/
theorem Rounds.exists_factor (h : Rounds x z) (hx : |x| ≤ 2 ^ 100) :
    ∃ θ : ℚ, 0 ≤ θ ∧ θ ≤ 1 + 1 / 2 ^ 23 ∧ valueOf z = θ * x := by
  obtain hzero | hne := eq_or_ne x 0
  · exact ⟨0, le_rfl, by norm_num, by rw [zero_mul, (h.exact (hzero ▸ representable_zero)).2, hzero]⟩
  have habs := h.abs_le_mul hx
  refine ⟨valueOf z / x, ?_, ?_, (div_mul_cancel₀ _ hne).symm⟩
  · obtain hneg | hpos := le_total x 0
    · exact div_nonneg_of_nonpos
        (h.between representable_neg_two_pow_100 representable_zero (abs_le.mp hx).1 hneg).2.2 hneg
    · exact div_nonneg (h.between representable_zero representable_two_pow_100 hpos (abs_le.mp hx).2).2.1 hpos
  · refine (le_abs_self _).trans ?_
    rw [abs_div, div_le_iff₀ (abs_pos.mpr hne), mul_comm]
    exact habs

end

end Sys2Proof.Machine

/-! The outputs of the network (spec/44_fdn_core.md R136, R141, R143): the taps, the reads they sum, and the bound of the
response. -/

namespace Sys2Proof.Machine

set_option Elab.async false

/-! ### The sum of a tap vector (10_state.md R34; R141) -/

section
variable {op op' : Nat} {a b a' b' v w acc sum : F32} {n : Nat}

/-- The value of a sum of finite numbers depends on the sum of their values only. -/
theorem valueOf_addCore_congr (ha : isFinite a = true) (hb : isFinite b = true) (ha' : isFinite a' = true)
    (hb' : isFinite b' = true) (h : valueOf a + valueOf b = valueOf a' + valueOf b') :
    valueOf (addCore op a b) = valueOf (addCore op' a' b') := by
  have hscaled : scaled a + scaled b = scaled a' + scaled b' := by
    simp only [valueOf, ← add_div] at h
    rw [div_left_inj' (by positivity)] at h
    exact_mod_cast h
  have hzero (s : Bool) : valueOf (withSign s 0) = 0 := valueOf_eq_zero_iff.mpr (isZero_withSign_zero s)
  simp only [addCore, isFinite_class ha, isFinite_class hb, isFinite_class ha', isFinite_class hb', hscaled,
    Bool.false_eq_true, if_false]
  split_ifs
  · rw [hzero, hzero]
  · rfl

theorem valueOf_fadd_congr (ha : isFinite a = true) (hb : isFinite b = true) (ha' : isFinite a' = true)
    (hb' : isFinite b' = true) (h : operandValue a + operandValue b = operandValue a' + operandValue b') :
    valueOf (fadd a b) = valueOf (fadd a' b') := by
  rw [fadd_eq_addCore (isFinite_class ha).1 (isFinite_class hb).1,
    fadd_eq_addCore (isFinite_class ha').1 (isFinite_class hb').1]
  refine valueOf_addCore_congr ?_ ?_ ?_ ?_ h <;> rwa [isFinite_daz]

theorem valueOf_fadd_eq_fsub (ha : isFinite a = true) (hb : isFinite b = true) (ha' : isFinite a' = true)
    (hb' : isFinite b' = true) (h : operandValue a + operandValue b = operandValue a' - operandValue b') :
    valueOf (fadd a b) = valueOf (fsub a' b') := by
  rw [operandValue, operandValue, operandValue, operandValue, sub_eq_add_neg, ← valueOf_fneg] at h
  rw [fadd_eq_addCore (isFinite_class ha).1 (isFinite_class hb).1,
    fsub_eq_addCore (isFinite_class ha').1 (isFinite_class hb').1]
  exact valueOf_addCore_congr (by rwa [isFinite_daz]) (by rwa [isFinite_daz]) (by rwa [isFinite_daz])
    (by rwa [isFinite_fneg, isFinite_daz]) h

theorem representable_operandValue (hv : isFinite v = true) : Representable (operandValue v) :=
  representable_valueOf (by rwa [isFinite_daz]) (isSubnormal_daz v)

theorem Representable.neg {q : ℚ} (h : Representable q) : Representable (-q) := by
  obtain ⟨v, hfin, hsub, rfl⟩ := h
  refine ⟨fneg v, by rwa [isFinite_fneg], ?_, valueOf_fneg v⟩
  rwa [isSubnormal, magBits_fneg, ← isSubnormal]

/-- The values of the entries of the tap vectors (10_state.md R34). -/
theorem operandValue_tapEntries :
    operandValue 0x3F800000#32 = 1 ∧ operandValue 0xBF800000#32 = -1 ∧ operandValue 0x00000000#32 = 0 := by
  have hone : daz 0x3F800000#32 = 0x3F800000#32 ∧ scaled 0x3F800000#32 = 2 ^ 149 := by decide +kernel
  have hneg : daz 0xBF800000#32 = 0xBF800000#32 ∧ scaled 0xBF800000#32 = -2 ^ 149 := by decide +kernel
  refine ⟨?_, ?_, operandValue_of_isZero (by decide)⟩
  · rw [operandValue, hone.1, valueOf, hone.2]
    norm_num
  · rw [operandValue, hneg.1, valueOf, hneg.2]
    norm_num

/-- A product with 1.0, -1.0 or 0.0 is exact. -/
theorem fmul_tapEntry {q : ℚ} (hw : isFinite w = true) (hv : isFinite v = true) (hq : operandValue w * operandValue v = q)
    (hrep : Representable q) : isFinite (fmul w v) = true ∧ operandValue (fmul w v) = q := by
  have hround := fmul_rounds hw hv
  rw [hround.operandValue]
  exact hround.exact (hq ▸ hrep) |>.imp_right (·.trans hq)

end

/-- A finite number between finite bounds, in values (40_numerics.md R83). -/
theorem within_iff {lo hi v : F32} (hlo : isFinite lo = true) (hhi : isFinite hi = true) :
    within lo hi v = true ↔ isFinite v = true ∧ valueOf lo ≤ valueOf v ∧ valueOf v ≤ valueOf hi := by
  rw [within, Bool.and_eq_true]
  refine ⟨fun ⟨h, h'⟩ => ?_, fun ⟨hv, h, h'⟩ => ?_⟩
  · have hv : isFinite v = true := by
      have nv : isNaN v = false := by
        by_contra hnan
        rw [(comparisons_of_isNaN (a := lo) (b := v) (.inr (Bool.not_eq_false _ ▸ hnan))).2.1] at h
        exact Bool.false_ne_true h
      have hkey := (fle_iff (isFinite_class hlo).1 nv).mp h
      have hkey' := (fle_iff nv (isFinite_class hhi).1).mp h'
      have hlow := (orderKey_of_isFinite hlo).1
      have hhigh := (orderKey_of_isFinite hhi).2
      rw [isFinite_iff]
      unfold orderKey at *
      split_ifs at * <;> omega
    exact ⟨hv, (comparisons_of_isFinite hlo hv).2.1.mp h, (comparisons_of_isFinite hv hhi).2.1.mp h'⟩
  · exact ⟨(comparisons_of_isFinite hlo hv).2.1.mpr h, (comparisons_of_isFinite hv hhi).2.1.mpr h'⟩

theorem abs_operandValue_le (v : F32) : |operandValue v| ≤ |valueOf v| := by
  obtain h | ⟨h, -⟩ := valueOf_ftz_cases v
  · exact (congrArg abs h).le
  · rw [show operandValue v = 0 from h, abs_zero]
    exact abs_nonneg _

/-- A finite number that an operation sees with a magnitude of at most `B`. -/
def MagnitudeLe (B : ℚ) (v : F32) : Prop := isFinite v = true ∧ |operandValue v| ≤ B

/-- A partial sum of a tap, with its zero products and without: equal in value, and as great as `n` reads of magnitude
at most `B` make it. -/
structure TapSum (B : ℚ) (n : Nat) (acc sum : F32) : Prop where
  isFinite_acc : isFinite acc = true
  isFinite_sum : isFinite sum = true
  flushed_acc : isSubnormal acc = false
  flushed_sum : isSubnormal sum = false
  value : valueOf acc = valueOf sum
  bound : |valueOf sum| ≤ n * (B + 1 / 2 ^ 19)

section
variable {B : ℚ} {n : Nat} {acc sum v : F32}

theorem TapSum.zero : TapSum B 0 0x00000000#32 0x00000000#32 := by
  refine ⟨by decide, by decide, by decide, by decide, rfl, ?_⟩
  rw [valueOf_eq_zero_iff.mpr (by decide)]
  norm_num

/-- A zero product does not change the value. -/
theorem TapSum.nul (h : TapSum B n acc sum) (hv : MagnitudeLe B v) :
    TapSum B n (fadd acc (fmul 0x00000000#32 v)) sum := by
  obtain ⟨hfin, hvalue⟩ := fmul_tapEntry (w := 0x00000000#32) (q := 0) (by decide) hv.1
    (by rw [operandValue_tapEntries.2.2, zero_mul]) representable_zero
  have hround := fadd_rounds h.isFinite_acc hfin
  rw [hvalue, add_zero] at hround
  obtain ⟨hfin', hvalue'⟩ := hround.exact (representable_operandValue h.isFinite_acc)
  rw [operandValue_of_not_isSubnormal h.flushed_acc] at hvalue'
  exact ⟨hfin', h.isFinite_sum, hround.isSubnormal, h.flushed_sum, hvalue'.trans h.value, h.bound⟩

/-- What two sums that add the same value to the two partial sums give. -/
theorem TapSum.of_rounds (h : TapSum B n acc sum) (hn : n < 4) (hB : B ≤ 4) {q : ℚ} {z z' : F32} (hq : |q| ≤ B)
    (hz : Rounds (operandValue acc + q) z) (hz' : Rounds (operandValue sum + q) z') (heq : valueOf z = valueOf z') :
    TapSum B (n + 1) z z' := by
  rw [operandValue_of_not_isSubnormal h.flushed_acc, h.value] at hz
  rw [operandValue_of_not_isSubnormal h.flushed_sum] at hz'
  have hsum := h.bound
  have hpos : 0 ≤ B := (abs_nonneg q).trans hq
  have hn' : (n : ℚ) ≤ 3 := by exact_mod_cast Nat.le_of_lt_succ hn
  have hx : |valueOf sum + q| ≤ n * (B + 1 / 2 ^ 19) + B := (abs_add_le _ _).trans (add_le_add hsum hq)
  have hx17 : |valueOf sum + q| ≤ 17 := by
    have : n * (B + 1 / 2 ^ 19) ≤ 3 * (4 + 1 / 2 ^ 19) := by gcongr
    linarith
  have hlimit : |valueOf sum + q| ≤ 2 ^ 100 := hx17.trans (by norm_num)
  refine ⟨hz.isFinite hlimit, hz'.isFinite hlimit, hz.isSubnormal, hz'.isSubnormal, heq, ?_⟩
  have herr := hz'.error hlimit
  have htri := abs_sub_abs_le_abs_sub (valueOf z') (valueOf sum + q)
  push_cast
  linarith

/-- A product with 1.0 adds its read. -/
theorem TapSum.pos (h : TapSum B n acc sum) (hn : n < 4) (hB : B ≤ 4) (hv : MagnitudeLe B v) :
    TapSum B (n + 1) (fadd acc (fmul 0x3F800000#32 v)) (fadd sum v) := by
  obtain ⟨hfin, hvalue⟩ := fmul_tapEntry (w := 0x3F800000#32) (by decide) hv.1
    (by rw [operandValue_tapEntries.1, one_mul]) (representable_operandValue hv.1)
  refine h.of_rounds hn hB hv.2 (hvalue ▸ fadd_rounds h.isFinite_acc hfin) (fadd_rounds h.isFinite_sum hv.1) ?_
  refine valueOf_fadd_congr h.isFinite_acc hfin h.isFinite_sum hv.1 ?_
  rw [hvalue, operandValue_of_not_isSubnormal h.flushed_acc, operandValue_of_not_isSubnormal h.flushed_sum, h.value]

/-- A product with -1.0 subtracts its read. -/
theorem TapSum.neg (h : TapSum B n acc sum) (hn : n < 4) (hB : B ≤ 4) (hv : MagnitudeLe B v) :
    TapSum B (n + 1) (fadd acc (fmul 0xBF800000#32 v)) (fsub sum v) := by
  obtain ⟨hfin, hvalue⟩ := fmul_tapEntry (w := 0xBF800000#32) (by decide) hv.1
    (by rw [operandValue_tapEntries.2.1, neg_one_mul]) (representable_operandValue hv.1).neg
  refine h.of_rounds hn hB ((abs_neg _).le.trans hv.2) (hvalue ▸ fadd_rounds h.isFinite_acc hfin)
    (sub_eq_add_neg (operandValue sum) _ ▸ fsub_rounds h.isFinite_sum hv.1) ?_
  refine valueOf_fadd_eq_fsub h.isFinite_acc hfin h.isFinite_sum hv.1 ?_
  rw [hvalue, operandValue_of_not_isSubnormal h.flushed_acc, operandValue_of_not_isSubnormal h.flushed_sum, h.value,
    sub_eq_add_neg]

end

/-- The taps as sums of eight products (R141). -/
theorem tapSum_refCfg (r : Vector F32 8) :
    let one := fun v : F32 => fmul 0x3F800000#32 v
    let neg := fun v : F32 => fmul 0xBF800000#32 v
    let nul := fun v : F32 => fmul 0x00000000#32 v
    tapSum refCfg.outL r =
        fadd (fadd (fadd (fadd (fadd (fadd (fadd (fadd 0x00000000#32 (one r[0])) (nul r[1])) (neg r[2])) (nul r[3]))
          (one r[4])) (nul r[5])) (neg r[6])) (nul r[7]) ∧
      tapSum refCfg.outR r =
        fadd (fadd (fadd (fadd (fadd (fadd (fadd (fadd 0x00000000#32 (nul r[0])) (one r[1])) (nul r[2])) (neg r[3]))
          (nul r[4])) (one r[5])) (nul r[6])) (neg r[7]) := by
  have hslots : List.finRange 8 = [0, 1, 2, 3, 4, 5, 6, 7] := by decide
  simp only [tapSum, hslots, List.foldl_cons, List.foldl_nil]
  exact ⟨rfl, rfl⟩

/-- The four reads of the even slots with alternating signs, in the order of the tap (R141). -/
def fourReads (r0 r1 r2 r3 : F32) : F32 := fsub (fadd (fsub (fadd 0x00000000#32 r0) r1) r2) r3

/-- Both taps of bounded reads, against the sums of their four reads. -/
theorem tapSum_taps {B : ℚ} (hB : B ≤ 4) {r : Vector F32 8} (h : ∀ i : Fin 8, MagnitudeLe B r[i]) :
    TapSum B 4 (tapSum refCfg.outL r) (fourReads r[0] r[2] r[4] r[6]) ∧
      TapSum B 4 (tapSum refCfg.outR r) (fourReads r[1] r[3] r[5] r[7]) := by
  obtain ⟨hleft, hright⟩ := tapSum_refCfg r
  rw [hleft, hright]
  constructor
  · exact TapSum.zero |>.pos (by decide) hB (h 0) |>.nul (h 1) |>.neg (by decide) hB (h 2) |>.nul (h 3)
      |>.pos (by decide) hB (h 4) |>.nul (h 5) |>.neg (by decide) hB (h 6) |>.nul (h 7)
  · exact TapSum.zero |>.nul (h 0) |>.pos (by decide) hB (h 1) |>.nul (h 2) |>.neg (by decide) hB (h 3)
      |>.nul (h 4) |>.pos (by decide) hB (h 5) |>.nul (h 6) |>.neg (by decide) hB (h 7)

/-- The words 4.0 and -4.0. -/
theorem valueOf_four : valueOf 0x40800000#32 = 4 ∧ valueOf 0xC0800000#32 = -4 := by
  constructor
  · rw [valueOf, show scaled 0x40800000#32 = 4 * 2 ^ 149 by decide +kernel]
    norm_num
  · rw [valueOf, show scaled 0xC0800000#32 = -4 * 2 ^ 149 by decide +kernel]
    norm_num

/-- Settles O51: the products with 1.0, -1.0 and 0.0 are exact, so that the sums of eight and of four have the same
value. -/
theorem outputTapsSumFourReads : Obligations.OutputTapsSumFourReads := by
  refine fun r => ⟨tapSum_refCfg r, fun h => ?_⟩
  have hreads (i : Fin 8) : MagnitudeLe 4 r[i] := by
    obtain ⟨hfin, hlow, hhigh⟩ := (within_iff (by decide) (by decide)).mp (h i)
    rw [valueOf_four.1] at hhigh
    rw [valueOf_four.2] at hlow
    exact ⟨hfin, (abs_operandValue_le _).trans (abs_le.mpr ⟨hlow, hhigh⟩)⟩
  obtain ⟨hleft, hright⟩ := tapSum_taps le_rfl hreads
  exact ⟨(comparisons_of_isFinite hleft.isFinite_acc hleft.isFinite_sum).2.2.mpr hleft.value,
    (comparisons_of_isFinite hright.isFinite_acc hright.isFinite_sum).2.2.mpr hright.value⟩

end Sys2Proof.Machine

/-! The reads of the network and the bound of the response (spec/41_delay_line.md R103; spec/44_fdn_core.md R136, R141,
R143). -/

namespace Sys2Proof.Machine

set_option Elab.async false

/-! ### The reads of a line (41_delay_line.md R102, R103) -/

/-- A word of a memory is a listed one or `+0.0`. -/
theorem allWords_memRead {p : F32 → Bool} {m : Memory} (h : allWords p m = true) (hzero : p 0x00000000#32 = true)
    (a : Nat) : p (memRead m a) = true := by
  induction m with
  | nil => exact hzero
  | cons e m ih =>
    obtain ⟨k, v⟩ := e
    rw [allWords, List.all_cons, Bool.and_eq_true] at h
    rw [memRead]
    split
    · exact h.1
    · exact ih h.2

theorem allWords_lineRead {w : Nat} {p : F32 → Bool} {l : Line w} (h : allWords p l.buf = true)
    (hzero : p 0x00000000#32 = true) (cap : Nat) (d : Int) : p (lineRead cap l d) = true :=
  allWords_memRead h hzero _

theorem valueOf_i2f {n : Nat} (h : n ≤ 2 ^ 24) : isFinite (i2f n) = true ∧ valueOf (i2f n) = n := by
  obtain ⟨hfin, hscaled⟩ := i2f_exact (n := n) h
  exact ⟨hfin, by rw [valueOf, hscaled, cast_units_div, Int.cast_natCast]⟩

/-- The clamped delay of a fractional read, a finite number from 0 to the greatest delay (R103). -/
theorem clampedDelay_bounds {cap : Nat} (hpos : 0 < cap) (hcap : cap ≤ 2 ^ 24) (d : F32) :
    isFinite (fclamp d fzero (i2f (cap - 1))) = true ∧ 0 ≤ valueOf (fclamp d fzero (i2f (cap - 1))) ∧
      valueOf (fclamp d fzero (i2f (cap - 1))) < 2 ^ 24 := by
  have hlast : ((cap : Int) - 1) = (cap - 1 : Nat) := by omega
  rw [hlast]
  obtain ⟨hfin, hvalue⟩ := valueOf_i2f (n := cap - 1) (by omega)
  have hzero : isFinite fzero = true ∧ valueOf fzero = 0 := ⟨by decide, valueOf_eq_zero_iff.mpr (by decide)⟩
  have hmax : valueOf (i2f (cap - 1 : Nat)) < 2 ^ 24 := by
    rw [hvalue]
    exact_mod_cast (by omega : cap - 1 < 2 ^ 24)
  have hbounds := within_fclamp_of_zero ((within_iff hzero.1 hfin).mpr ⟨hzero.1, le_rfl, by rw [hvalue, hzero.2]; positivity⟩) d
  obtain ⟨hfin', hlow, hhigh⟩ := (within_iff hzero.1 hfin).mp hbounds
  rw [hzero.2] at hlow
  exact ⟨hfin', hlow, hhigh.trans_lt hmax⟩

/-- The fraction of a fractional read is a finite number from 0 to 1 (R103). -/
theorem readFraction_bounds {e : F32} (hfin : isFinite e = true) (hlow : 0 ≤ valueOf e) (hhigh : valueOf e < 2 ^ 24) :
    isFinite (fsub e (i2f (ifloor e))) = true ∧ 0 ≤ operandValue (fsub e (i2f (ifloor e))) ∧
      operandValue (fsub e (i2f (ifloor e))) ≤ 1 := by
  have hscaled : 0 ≤ scaled e := by
    rw [valueOf, le_div_iff₀ (by positivity), zero_mul] at hlow
    exact_mod_cast hlow
  obtain ⟨hfloor, hceil⟩ := valueOf_ifloor hscaled
  have hint : ifloor e ≤ 2 ^ 24 := by exact_mod_cast (hfloor.trans hhigh.le)
  obtain ⟨hifin, hivalue⟩ := valueOf_i2f hint
  have hround := fsub_rounds hfin hifin
  rw [hround.operandValue]
  rw [operandValue_of_not_isSubnormal (isSubnormal_i2f _), hivalue] at hround
  have hone : Representable 1 := by simpa using representable_int (n := 1) (by decide)
  obtain heq | ⟨hzero, hsmall⟩ := valueOf_ftz_cases e
  · rw [show operandValue e = valueOf e from heq] at hround
    exact hround.between representable_zero hone (by linarith) (by linarith)
  · have hnone : ifloor e = 0 := by
      have : (ifloor e : ℚ) < 1 := hfloor.trans_lt ((le_abs_self _).trans_lt (hsmall.trans (by norm_num)))
      exact Nat.lt_one_iff.mp (by exact_mod_cast this)
    rw [show operandValue e = 0 from hzero, hnone, Nat.cast_zero, sub_zero] at hround
    exact hnone ▸ hround.between representable_zero hone le_rfl (by norm_num)

/-- The errors of an interpolation between two numbers of magnitude at most 2: the difference `δ`, the product `p` and the
sum `r` are each near what they round. -/
theorem interpolation_error {x y t δ p : ℚ} (hx : |x| ≤ 2) (hy : |y| ≤ 2) (ht0 : 0 ≤ t) (ht1 : t ≤ 1)
    (hδ : |δ - (y - x)| ≤ |y - x| / 2 ^ 24 + 1 / 2 ^ 125) :
    |t * δ| ≤ 5 ∧ (|p - t * δ| ≤ |t * δ| / 2 ^ 24 + 1 / 2 ^ 125 → |x + p| ≤ 2 + 10 / 2 ^ 24) := by
  have hscale (q : ℚ) : |t * q| ≤ |q| := by
    rw [abs_mul, abs_of_nonneg ht0]
    exact mul_le_of_le_one_left (abs_nonneg q) ht1
  have hd : |y - x| ≤ 4 := (abs_sub y x).trans (by linarith)
  have hδ' : |δ| ≤ 5 := by
    have := abs_sub_abs_le_abs_sub δ (y - x)
    linarith
  have htδ : |t * δ| ≤ 5 := (hscale δ).trans hδ'
  refine ⟨htδ, fun hp => ?_⟩
  have hmix : |(1 - t) * x + t * y| ≤ 2 := by
    rw [abs_le] at hx hy ⊢
    constructor <;> nlinarith
  have hterm := hscale (δ - (y - x))
  calc |x + p| = |((1 - t) * x + t * y) + t * (δ - (y - x)) + (p - t * δ)| := by ring_nf
    _ ≤ |(1 - t) * x + t * y| + |t * (δ - (y - x))| + |p - t * δ| := abs_add_three _ _ _
    _ ≤ 2 + 10 / 2 ^ 24 := by linarith

/-- An interpolation between two numbers of magnitude at most 2 exceeds 2 by its roundings only. -/
theorem interpolation_bounded {a b f : F32} (ha : MagnitudeLe 2 a) (hb : MagnitudeLe 2 b) (hf : isFinite f = true)
    (hf0 : 0 ≤ operandValue f) (hf1 : operandValue f ≤ 1) :
    MagnitudeLe (2 + 1 / 2 ^ 20) (fadd a (fmul f (fsub b a))) := by
  obtain ⟨hafin, ha⟩ := ha
  obtain ⟨hbfin, hb⟩ := hb
  have hdiff := fsub_rounds hbfin hafin
  have hd : |operandValue b - operandValue a| ≤ 2 ^ 100 := (abs_sub _ _).trans (by linarith)
  have hdfin := hdiff.isFinite hd
  have hprod := fmul_rounds hf hdfin
  rw [hdiff.operandValue] at hprod
  obtain ⟨hp, herr⟩ := interpolation_error (p := valueOf (fmul f (fsub b a))) ha hb hf0 hf1 (hdiff.error hd)
  have hp' : |operandValue f * valueOf (fsub b a)| ≤ 2 ^ 100 := hp.trans (by norm_num)
  have hsum := fadd_rounds hafin (hprod.isFinite hp')
  rw [hprod.operandValue] at hsum
  have hs := herr (hprod.error hp')
  have hs' : |operandValue a + valueOf (fmul f (fsub b a))| ≤ 2 ^ 100 := hs.trans (by norm_num)
  refine ⟨hsum.isFinite hs', ?_⟩
  rw [hsum.operandValue]
  have hserr := hsum.error hs'
  have htri := abs_sub_abs_le_abs_sub (valueOf (fadd a (fmul f (fsub b a))))
    (operandValue a + valueOf (fmul f (fsub b a)))
  linarith

theorem valueOf_two : valueOf 0x40000000#32 = 2 ∧ valueOf 0xC0000000#32 = -2 := by
  constructor
  · rw [valueOf, show scaled 0x40000000#32 = 2 * 2 ^ 149 by decide +kernel]
    norm_num
  · rw [valueOf, show scaled 0xC0000000#32 = -2 * 2 ^ 149 by decide +kernel]
    norm_num

/-- A word in the feedback range has a magnitude of at most 2 (R140). -/
theorem magnitudeLe_of_withinFeedback {v : F32} (h : withinFeedback v = true) : MagnitudeLe 2 v := by
  have hneg : fneg refCfg.fbLimit = 0xC0000000#32 := by decide
  rw [withinFeedback, hneg] at h
  obtain ⟨hfin, hlow, hhigh⟩ := (within_iff (by decide) (by decide)).mp h
  rw [valueOf_two.2] at hlow
  rw [show refCfg.fbLimit = 0x40000000#32 from rfl, valueOf_two.1] at hhigh
  exact ⟨hfin, (abs_operandValue_le v).trans (abs_le.mpr ⟨hlow, hhigh⟩)⟩

/-- A fractional read of a line whose words are in the feedback range (R103, R136). -/
theorem lineReadInterp_bounded {w cap : Nat} (hpos : 0 < cap) (hcap : cap ≤ 2 ^ 24) {l : Line w}
    (h : allWords withinFeedback l.buf = true) (d : F32) : MagnitudeLe (2 + 1 / 2 ^ 20) (lineReadInterp cap l d) := by
  have hword (i : Int) : MagnitudeLe 2 (lineRead cap l i) :=
    magnitudeLe_of_withinFeedback (allWords_lineRead h (by decide) cap i)
  obtain ⟨hfin, hlow, hhigh⟩ := clampedDelay_bounds hpos hcap d
  obtain ⟨hffin, hf0, hf1⟩ := readFraction_bounds hfin hlow hhigh
  exact interpolation_bounded (hword _) (hword _) hffin hf0 hf1

/-! ### The bound of the response (R143 (c)) -/

/-- The outputs of a sample are its taps, scaled (R141). -/
theorem fdnStep_out (c : Config) (frz : Bool) (k : Coeffs) (f : Vector SlotFilter 8) (dl : Vector (Line 15) 8)
    (uL uR d : F32) (mods : Vector F32 8) :
    (fdnStep c frz k f dl uL uR d mods).outL = fmul c.outScale (tapSum c.outL (fdnReads c k.len d mods dl)) ∧
      (fdnStep c frz k f dl uL uR d mods).outR = fmul c.outScale (tapSum c.outR (fdnReads c k.len d mods dl)) :=
  ⟨rfl, rfl⟩

/-- Every read of the network is a fractional read of its line (R136). -/
theorem fdnReads_getElem (c : Config) (len : Vector F32 8) (depthS : F32) (mods : Vector F32 8)
    (dl : Vector (Line 15) 8) (i : Fin 8) :
    (fdnReads c len depthS mods dl)[i] = lineReadInterp c.capDl dl[i] (fdnDelay c len[i] depthS mods[i]) :=
  Vector.getElem_ofFn ..

/-- Half of four reads of magnitude at most 2, but for their roundings, is at most 4, but for its own. -/
theorem outScale_bounded {acc sum : F32} (h : TapSum (2 + 1 / 2 ^ 20) 4 acc sum) :
    isFinite (fmul refCfg.outScale acc) = true ∧ |valueOf (fmul refCfg.outScale acc)| < 400001 / 100000 := by
  have hhalf : operandValue refCfg.outScale = 1 / 2 := by
    rw [operandValue_of_not_isSubnormal (by decide), valueOf, show scaled refCfg.outScale = 2 ^ 148 by decide +kernel]
    norm_num
  have hround := fmul_rounds (a := refCfg.outScale) (by decide) h.isFinite_acc
  rw [hhalf, operandValue_of_not_isSubnormal h.flushed_acc, h.value] at hround
  have hx : |1 / 2 * valueOf sum| ≤ 4 + 6 / 2 ^ 20 := by
    rw [abs_mul, abs_of_pos (by norm_num : (0 : ℚ) < 1 / 2)]
    have := h.bound
    push_cast at this
    linarith
  have hlimit : |1 / 2 * valueOf sum| ≤ 2 ^ 100 := hx.trans (by norm_num)
  refine ⟨hround.isFinite hlimit, ?_⟩
  have herr := hround.error hlimit
  have htri := abs_sub_abs_le_abs_sub (valueOf (fmul refCfg.outScale acc)) (1 / 2 * valueOf sum)
  linarith

/-- An output of magnitude below 4.00001 (R143 (c)). -/
def OutputBounded (v : F32) : Prop := isFinite v = true ∧ |valueOf v| < 400001 / 100000

/-- The outputs of a sample from lines whose words are in the feedback range. -/
theorem networkStep_bounded {s : State} (h : FdnWordsBounded s) (left right : Operand) :
    OutputBounded (networkStep refCfg left right s).outL ∧ OutputBounded (networkStep refCfg left right s).outR := by
  have hreads (len : Vector F32 8) (depthS : F32) (mods : Vector F32 8) (i : Fin 8) :
      MagnitudeLe (2 + 1 / 2 ^ 20) (fdnReads refCfg len depthS mods s.dl)[i] := by
    rw [fdnReads_getElem]
    exact lineReadInterp_bounded (by decide) (by decide) (h i) _
  rw [networkStep, (fdnStep_out ..).1, (fdnStep_out ..).2]
  obtain ⟨hleft, hright⟩ := tapSum_taps (by norm_num) (hreads _ _ _)
  exact ⟨outScale_bounded hleft, outScale_bounded hright⟩

/-- The lines PROCESS reads hold words in the feedback range: CONTROLLATCH clears them or leaves them
(49_cmd_process.md R191). -/
theorem smoothPhase_controlLatch_fdnWordsBounded {s : State} (h : FdnWordsBounded s) :
    FdnWordsBounded (smoothPhase refCfg (controlLatch refCfg s)) :=
  (smoothPhase_linesAll (controlLatch_linesAll feedbackRange_keptByLineOps ⟨h, fun _ _ => trivial⟩)).1

/-- Settles O44: a prepared engine answers the scaled taps of bounded reads, an unprepared one silence. -/
theorem responseIsBounded : Obligations.ResponseIsBounded := by
  intro left right s h
  cases hprep : s.setup.prepared with
  | true =>
    obtain ⟨-, -, hrsp⟩ := samplePhase_network refCfg left right (smoothPhase refCfg (controlLatch refCfg s))
    obtain ⟨⟨hlfin, hl⟩, hrfin, hr⟩ :=
      networkStep_bounded (smoothPhase_controlLatch_fdnWordsBounded h) left right
    exact ⟨_, _, _, exec_process_prepared left right hprep, hrsp, hlfin, hrfin, hl, hr⟩
  | false =>
    have hzero : OutputBounded fzero := by
      refine ⟨by decide, ?_⟩
      rw [valueOf_eq_zero_iff.mpr (by decide)]
      norm_num
    have hexec : exec (.process left right) s = .next (emit (.audio (rsp64 fzero fzero)) s) := by
      rw [exec_eq_commandWith, commandWith, processWith_unprepared refCfg left right hprep]
    exact ⟨_, fzero, fzero, hexec, rfl, hzero.1, hzero.1, hzero.2, hzero.2⟩

end Sys2Proof.Machine

/-! Silence (spec/44_fdn_core.md R144 (a)): a PROCESS with silent inputs on a silent engine. Silence is kept in two forms
that one argument covers: zeros under finite coefficients, and zeros and NaNs under any coefficients, where the feedback
clamp turns a NaN into `+0.0` before it enters a network line. -/

namespace Sys2Proof.Machine

set_option Elab.async false

/-! ### The two forms of silence -/

/-- A kind of silence: `P` is what the signals of a silent engine are, `K` what the coefficients that multiply them are. -/
structure SilenceKind (P K : F32 → Bool) : Prop where
  of_isZero : ∀ v, isZero v = true → P v = true
  of_isFinite : ∀ v, isFinite v = true → K v = true
  fneg : ∀ a, P a = true → P (fneg a) = true
  fadd : ∀ a b, P a = true → P b = true → P (fadd a b) = true
  fsub : ∀ a b, P a = true → P b = true → P (fsub a b) = true
  fmul : ∀ c a, K c = true → P a = true → P (fmul c a) = true
  feedbackClamp : ∀ a, P a = true → isZero (feedbackClamp refCfg a) = true

/-- A zero is within every range of the reference configuration that the signal path clamps to. -/
theorem fclamp_of_isZero {lo hi v : F32} (hlo : isFinite lo = true) (hhi : isFinite hi = true)
    (h : valueOf lo ≤ 0) (h' : 0 ≤ valueOf hi) (hv : isZero v = true) : fclamp v lo hi = v := by
  refine fclamp_of_within ((within_iff hlo hhi).mpr ⟨isFinite_of_isZero hv, ?_⟩)
  rw [valueOf_eq_zero_iff.mpr hv]
  exact ⟨h, h'⟩

theorem feedbackClamp_of_isZero {v : F32} (hv : isZero v = true) : feedbackClamp refCfg v = v := by
  have hneg : fneg refCfg.fbLimit = 0xC0000000#32 := by decide
  have hpos : refCfg.fbLimit = 0x40000000#32 := rfl
  rw [feedbackClamp, hneg, hpos]
  exact fclamp_of_isZero (by decide) (by decide) (by rw [valueOf_two.2]; norm_num) (by rw [valueOf_two.1]; norm_num) hv

/-- Zeros stay zeros under finite coefficients (40_numerics.md R89). -/
theorem silenceKind_zero : SilenceKind isZero isFinite where
  of_isZero _ h := h
  of_isFinite _ h := h
  fneg _ h := by rwa [isZero, magBits_fneg]
  fadd _ _ := isZero_fadd
  fsub _ _ := isZero_fsub
  fmul _ _ := isZero_fmul
  feedbackClamp _ h := by rwa [feedbackClamp_of_isZero h]

/-- A zero of either sign or a NaN. -/
def isZeroOrNaN (v : F32) : Bool := isZero v || isNaN v

theorem isZeroOrNaN_iff {v : F32} : isZeroOrNaN v = true ↔ isZero v = true ∨ isNaN v = true := by
  rw [isZeroOrNaN, Bool.or_eq_true]

/-- A coefficient that is not finite makes a NaN of a zero. -/
theorem isZeroOrNaN_fmul (c : F32) {a : F32} (ha : isZeroOrNaN a = true) : isZeroOrNaN (fmul c a) = true := by
  rw [isZeroOrNaN_iff] at ha ⊢
  obtain hz | hn := ha
  · by_cases hc : isFinite c = true
    · exact .inl (isZero_fmul hc hz)
    · by_cases hcn : isNaN c = true
      · exact .inr (isNaN_operations (.inl hcn)).2.2.1
      · have hinf : isInf (daz c) = true := by
          rw [isInf_daz, isInf_iff]
          rw [isFinite_iff] at hc
          rw [isNaN_iff] at hcn
          omega
        have hcore := mulCore_of_isInf (b := daz a) (.inl hinf)
        rw [isZero_daz hz, Bool.or_true, if_pos rfl] at hcore
        rw [fmul_eq_mulCore (Bool.not_eq_true _ ▸ hcn) (isFinite_class (isFinite_of_isZero hz)).1]
        exact .inr hcore
  · exact .inr (isNaN_operations (.inr hn)).2.2.1

/-- Zeros and NaNs stay so under any coefficients. -/
theorem silenceKind_zeroOrNaN : SilenceKind isZeroOrNaN fun _ => true where
  of_isZero _ h := isZeroOrNaN_iff.mpr (.inl h)
  of_isFinite _ _ := rfl
  fneg _ h := by rwa [isZeroOrNaN, isZero, isNaN, magBits_fneg]
  fadd a b ha hb := by
    rw [isZeroOrNaN_iff] at *
    obtain ha | ha := ha
    · exact hb.imp (isZero_fadd ha) fun hb => (isNaN_operations (.inr hb)).1
    · exact .inr (isNaN_operations (.inl ha)).1
  fsub a b ha hb := by
    rw [isZeroOrNaN_iff] at *
    obtain ha | ha := ha
    · exact hb.imp (isZero_fsub ha) fun hb => (isNaN_operations (.inr hb)).2.1
    · exact .inr (isNaN_operations (.inl ha)).2.1
  fmul c _ _ ha := isZeroOrNaN_fmul c ha
  feedbackClamp a ha := by
    obtain hz | hn := isZeroOrNaN_iff.mp ha
    · rwa [feedbackClamp_of_isZero hz]
    · rw [feedbackClamp, fclamp, if_pos hn]
      decide

/-! ### The units of the signal path on silent signals -/

section
variable {P K : F32 → Bool} (hk : SilenceKind P K)
include hk

/-- A fractional read of a silent line: the fraction is finite, whatever the request (41_delay_line.md R103). -/
theorem SilenceKind.lineReadInterp {w cap : Nat} (hpos : 0 < cap) (hcap : cap ≤ 2 ^ 24) {l : Line w}
    (h : allWords P l.buf = true) (d : F32) : P (lineReadInterp cap l d) = true := by
  have hword (i : Int) : P (lineRead cap l i) = true := allWords_lineRead h (hk.of_isZero _ (by decide)) cap i
  obtain ⟨hfin, hlow, hhigh⟩ := clampedDelay_bounds hpos hcap d
  have hfrac := hk.of_isFinite _ (readFraction_bounds hfin hlow hhigh).1
  exact hk.fadd _ _ (hword _) (hk.fmul _ _ hfrac (hk.fsub _ _ (hword _) (hword _)))

/-- What a stage of a silent diffuser chain reads (42_allpass_diffuser.md R112). -/
theorem SilenceKind.stageRead {lines : Vector (Line 12) 4} (h : ∀ k : Fin 4, allWords P lines[k].buf = true)
    (apd lfo : F32) (lens : Vector (BitVec 12) 4) (k : Fin 4) : P (stageRead refCfg lens apd lfo lines k) = true := by
  rw [stageRead_refCfg]
  split
  · exact allWords_lineRead (h k) (hk.of_isZero _ (by decide)) _ _
  · exact hk.lineReadInterp (by decide) (by decide) (h k) _

/-- The signal through a silent chain (42_allpass_diffuser.md R111). -/
theorem SilenceKind.chainSignal {lines : Vector (Line 12) 4} (h : ∀ k : Fin 4, allWords P lines[k].buf = true)
    (apd lfo : F32) (lens : Vector (BitVec 12) 4) {x0 : F32} (hx : P x0 = true) (j : Nat) (hj : j < 5) :
    P (chainSignal refCfg apd lfo lens lines x0)[j] = true := by
  induction j with
  | zero => rwa [chainSignal_zero]
  | succ j ih =>
    rw [chainSignal_succ refCfg apd lfo lens lines x0 ⟨j, by omega⟩]
    exact hk.fadd _ _ (hk.fneg _ (ih (by omega))) (hk.stageRead h apd lfo lens _)

/-- A silent chain passes silence on and stays silent (42_allpass_diffuser.md R112). -/
theorem SilenceKind.diffuse {lines : Vector (Line 12) 4} (h : ∀ k : Fin 4, allWords P lines[k].buf = true) {g : F32}
    (hg : K g = true) (apd lfo : F32) (lens : Vector (BitVec 12) 4) {x0 : F32} (hx : P x0 = true) :
    P (diffuse refCfg g apd lfo lens lines x0).out = true ∧
      ∀ k : Fin 4, allWords P (diffuse refCfg g apd lfo lens lines x0).lines[k].buf = true := by
  refine ⟨?_, fun k => ?_⟩
  · rw [diffuse_out]
    exact hk.chainSignal h apd lfo lens hx 4 (by decide)
  · rw [diffuse_lines_getElem]
    exact allWords_memWrite (h k) _
      (hk.fadd _ _ (hk.chainSignal h apd lfo lens hx k (by omega)) (hk.fmul _ _ hg (hk.stageRead h apd lfo lens k)))

/-- One sample of a silent one-pole filter (43_decay_filter.md R126). -/
theorem SilenceKind.onePole {coeff lp x : F32} (hc : K coeff = true) (hlp : P lp = true) (hx : P x = true) :
    P (onePole coeff lp x) = true :=
  hk.fadd _ _ hlp (hk.fmul _ _ hc (hk.fsub _ _ hx hlp))

end

/-- A filter whose four states are silent (R144 (a)). -/
def FilterSilent (P : F32 → Bool) (f : SlotFilter) : Prop :=
  P f.lp1 = true ∧ P f.lp2 = true ∧ P f.z1 = true ∧ P f.z2 = true

/-- Every coefficient of the decay filters is one that silence survives. -/
structure FilterCoeffsIn (K : F32 → Bool) (k : Coeffs) : Prop where
  gains : ∀ i : Fin 8, K k.gl[i] = true ∧ K k.gm[i] = true ∧ K k.gh[i] = true
  clo : K k.clo = true
  chi : K k.chi = true
  b0 : K k.b0 = true
  b1 : K k.b1 = true
  b2 : K k.b2 = true
  a1 : K k.a1 = true
  a2 : K k.a2 = true

section
variable {P K : F32 → Bool} (hk : SilenceKind P K)
include hk

/-- A silent filter answers silence and stays silent (43_decay_filter.md R126). -/
theorem SilenceKind.decay {k : Coeffs} (h : FilterCoeffsIn K k) (i : Fin 8) {f : SlotFilter} (hf : FilterSilent P f)
    {x : F32} (hx : P x = true) : P (decay k i f x).out = true ∧ FilterSilent P (decay k i f x).filter := by
  obtain ⟨hlp1, hlp2, hz1, hz2⟩ := hf
  obtain ⟨hgl, hgm, hgh⟩ := h.gains i
  have hlow := hk.onePole h.clo hlp1 hx
  have hhigh := hk.onePole h.chi hlp2 hx
  have hband : P (bandSum k i (Machine.onePole k.clo f.lp1 x) (Machine.onePole k.chi f.lp2 x) x) = true :=
    hk.fadd _ _ (hk.fadd _ _ (hk.fmul _ _ hgl hlow) (hk.fmul _ _ hgm (hk.fsub _ _ hhigh hlow)))
      (hk.fmul _ _ hgh (hk.fsub _ _ hx hhigh))
  have hout : P (Machine.decay k i f x).out = true := hk.fadd _ _ (hk.fmul _ _ h.b0 hband) hz1
  obtain ⟨hz1', hz2'⟩ := decay_biquad k i f x
  refine ⟨hout, hlow, hhigh, ?_, ?_⟩
  · rw [hz1']
    exact hk.fadd _ _ (hk.fsub _ _ (hk.fmul _ _ h.b1 hband) (hk.fmul _ _ h.a1 hout)) hz2
  · rw [hz2']
    exact hk.fsub _ _ (hk.fmul _ _ h.b2 hband) (hk.fmul _ _ h.a2 hout)

/-- A butterfly stage on silent signals (R138). -/
theorem SilenceKind.butterfly {m : Vector F32 8} (h : ∀ i : Fin 8, P m[i] = true) (stride i : Fin 8) :
    P (butterfly stride m)[i] = true := by
  rw [butterfly_getElem]
  split
  · exact hk.fadd _ _ (h _) (h _)
  · exact hk.fsub _ _ (h _) (h _)

/-- The mixer on silent signals (R138). -/
theorem SilenceKind.hadamard {m : Vector F32 8} (h : ∀ i : Fin 8, P m[i] = true) (i : Fin 8) :
    P (hadamard refCfg m)[i] = true := by
  rw [hadamard_getElem]
  exact hk.fmul _ _ (hk.of_isFinite _ (by decide)) (hk.butterfly (hk.butterfly (hk.butterfly h 1) 2) 4 i)

/-- The injection of silent signals (R139). -/
theorem SilenceKind.inject (frz : Bool) (i : Fin 8) {m uL uR : F32} (hm : P m = true) (hl : P uL = true)
    (hr : P uR = true) : P (inject refCfg frz i m uL uR) = true := by
  have hvectors : ∀ i : Fin 8, isFinite refCfg.injL[i] = true ∧ isFinite refCfg.injR[i] = true := by decide
  obtain ⟨hil, hir⟩ := hvectors i
  unfold Machine.inject
  split
  · exact hm
  · exact hk.fadd _ _ hm (hk.fadd _ _ (hk.fmul _ _ (hk.of_isFinite _ hil) hl) (hk.fmul _ _ (hk.of_isFinite _ hir) hr))

end

/-! ### The network on silent lines (R135 to R141) -/

/-- A zero added to `+0.0` is `+0.0` (40_numerics.md R82). -/
theorem fadd_fzero_of_isZero {z : F32} (hz : isZero z = true) : fadd fzero z = fzero := by
  have hfin := isFinite_of_isZero hz
  rw [fadd_eq_addCore (by decide) (isFinite_class hfin).1, daz_of_not_isSubnormal (isSubnormal_of_isZero hz),
    daz_of_not_isSubnormal isSubnormal_fzero]
  obtain ⟨hscaled, hinf, hsign⟩ : scaled fzero = 0 ∧ isInf fzero = false ∧ signBit fzero = false := by decide
  simp only [addCore, hscaled, hinf, hsign, isFinite_class hfin, scaled_of_isZero hz, Int.add_zero, Bool.false_and,
    Bool.false_eq_true, if_false, if_true]
  rfl

/-- A tap of zeros is `+0.0`, whatever their signs (R141). -/
theorem tapSum_of_isZero {w r : Vector F32 8} (hw : ∀ i : Fin 8, isFinite w[i] = true)
    (hr : ∀ i : Fin 8, isZero r[i] = true) : tapSum w r = fzero := by
  have hfixed (i : Fin 8) : fadd fzero (fmul w[i] r[i]) = fzero := fadd_fzero_of_isZero (isZero_fmul (hw i) (hr i))
  exact List.foldl_fixed' hfixed _

section
variable {dl : Vector (Line 15) 8} (hdl : ∀ i : Fin 8, allWords isZero dl[i].buf = true)
include hdl

/-- The reads of silent lines are zeros, whatever the requests (R136). -/
theorem isZero_fdnReads (len : Vector F32 8) (depthS : F32) (mods : Vector F32 8) (i : Fin 8) :
    isZero (fdnReads refCfg len depthS mods dl)[i] = true := by
  rw [fdnReads_getElem]
  exact silenceKind_zero.lineReadInterp (by decide) (by decide) (hdl i) _

/-- A sample of silent lines answers `(+0.0, +0.0)`. -/
theorem fdnStep_silent_out (frz : Bool) (k : Coeffs) (f : Vector SlotFilter 8) (uL uR d : F32) (mods : Vector F32 8) :
    (fdnStep refCfg frz k f dl uL uR d mods).outL = fzero ∧ (fdnStep refCfg frz k f dl uL uR d mods).outR = fzero := by
  have hvectors : ∀ i : Fin 8, isFinite refCfg.outL[i] = true ∧ isFinite refCfg.outR[i] = true := by decide
  have hreads := isZero_fdnReads hdl k.len d mods
  rw [(fdnStep_out ..).1, (fdnStep_out ..).2, tapSum_of_isZero (fun i => (hvectors i).1) hreads,
    tapSum_of_isZero (fun i => (hvectors i).2) hreads]
  decide

variable {P K : F32 → Bool} (hk : SilenceKind P K)
include hk

/-- A sample of silent lines through silent filters leaves both silent (R135). -/
theorem SilenceKind.fdnStep {k : Coeffs} (hc : FilterCoeffsIn K k) {f : Vector SlotFilter 8}
    (hf : ∀ i : Fin 8, FilterSilent P f[i]) {uL uR : F32} (hl : P uL = true) (hr : P uR = true) (frz : Bool) (d : F32)
    (mods : Vector F32 8) :
    (∀ i : Fin 8, allWords isZero (fdnStep refCfg frz k f dl uL uR d mods).dl[i].buf = true) ∧
      ∀ i : Fin 8, FilterSilent P (fdnStep refCfg frz k f dl uL uR d mods).filters[i] := by
  have hreads (i : Fin 8) : P (fdnReads refCfg k.len d mods dl)[i] = true :=
    hk.of_isZero _ (isZero_fdnReads hdl k.len d mods i)
  have hdecay (i : Fin 8) := hk.decay hc i (hf i) (hreads i)
  have hwrite {m : Vector F32 8} (hm : ∀ i : Fin 8, P m[i] = true) (i : Fin 8) :
      allWords isZero (Vector.zipWith (fdnWrite refCfg) dl (fdnSums refCfg frz m uL uR))[i].buf = true := by
    rw [Fin.getElem_fin, Vector.getElem_zipWith, fdnSums, Vector.getElem_ofFn]
    exact allWords_memWrite (hdl i) _ (hk.feedbackClamp _ (hk.inject frz i (hk.hadamard hm i) hl hr))
  cases frz with
  | true => exact ⟨hwrite hreads, hf⟩
  | false =>
    refine ⟨hwrite fun i => ?_, fun i => ?_⟩
    · simpa [fdnDecays] using (hdecay i).1
    · simpa [Machine.fdnStep, fdnDecays] using (hdecay i).2

end

end Sys2Proof.Machine

/-! Silent states and runs (spec/44_fdn_core.md R144 (a); spec/47_cmd_lifecycle.md R171, R172; spec/49_cmd_process.md
R190). -/

namespace Sys2Proof.Machine

set_option Elab.async false

/-! ### Silent states (R144 (a)) -/

/-- The network lines hold zeros; the diffuser lines and the filters are silent of kind `P`. -/
structure Silent (P : F32 → Bool) (s : State) : Prop where
  dl : ∀ i : Fin 8, allWords isZero s.dl[i].buf = true
  ap : ∀ (ch : Fin 2) (k : Fin 4), allWords P s.ap[ch][k].buf = true
  filters : ∀ i : Fin 8, FilterSilent P s.filters[i]

theorem silent_isZero_iff {s : State} : Silent isZero s ↔ LinesSilent s ∧ FiltersSilent s :=
  ⟨fun h => ⟨⟨h.dl, h.ap⟩, h.filters⟩, fun ⟨⟨hdl, hap⟩, hf⟩ => ⟨hdl, hap, hf⟩⟩

section
variable {P K : F32 → Bool} {s t : State}

theorem Silent.of_eq (h : Silent P s) (hdl : t.dl = s.dl) (hap : t.ap = s.ap) (hf : t.filters = s.filters) :
    Silent P t where
  dl := by rw [hdl]; exact h.dl
  ap := by rw [hap]; exact h.ap
  filters := by rw [hf]; exact h.filters

variable (hk : SilenceKind P K)
include hk

theorem SilenceKind.clearFilter : FilterSilent P clearFilter := by
  have hzero : P fzero = true := hk.of_isZero _ (by decide)
  exact ⟨hzero, hzero, hzero, hzero⟩

/-- ENGINECLEAR makes the engine silent (47_cmd_lifecycle.md R174). -/
theorem SilenceKind.of_cleared (hdl : t.dl = Vector.replicate 8 clearLine)
    (hap : t.ap = Vector.replicate 2 (Vector.replicate 4 clearLine)) (hf : t.filters = clearFilters) : Silent P t where
  dl i := by simp [hdl, clearLine, allWords]
  ap ch k := by simp [hap, clearLine, allWords]
  filters i := by simpa [hf, clearFilters] using hk.clearFilter

/-- CONTROLLATCH leaves or clears every line and every filter (49_cmd_process.md R191). -/
theorem SilenceKind.controlLatch (h : Silent P s) : Silent P (Machine.controlLatch refCfg s) where
  dl i := by
    rw [controlLatch_dl, latchedDl]
    split
    · exact h.dl i
    · rfl
  ap ch k := by
    rw [controlLatch_ap, Fin.getElem_fin, Vector.getElem_ofFn, latchedAp]
    split
    · exact h.ap ch k
    · rfl
  filters i := by
    rw [controlLatch_filter, latchedFilter]
    split
    · exact h.filters i
    · exact hk.clearFilter

/-- Steps P1 to P3 keep silence. -/
theorem SilenceKind.smoothPhase_controlLatch (h : Silent P s) : 
    Silent P (smoothPhase refCfg (Machine.controlLatch refCfg s)) := by
  obtain ⟨-, -, -, -, hf, -, hdl, hap, -⟩ := smoothPhase_spec refCfg (Machine.controlLatch refCfg s)
  exact (hk.controlLatch h).of_eq hdl hap hf

/-- Steps P4 to P7 on silent inputs answer silence and keep it, under coefficients that it survives. -/
theorem SilenceKind.samplePhase (h : Silent P s) (hc : FilterCoeffsIn K s.coeffs)
    (hg : K s.smoothers[10].cur = true) {left right : Operand} (hl : isZero (sanitize refCfg left) = true)
    (hr : isZero (sanitize refCfg right) = true) :
    Silent P (samplePhase refCfg left right s) ∧
      (samplePhase refCfg left right s).rsp = some (.audio 0x0000000000000000#64) := by
  have hdiffuse (ch : Fin 2) (lfo : F32) {u : Operand} (hu : isZero (sanitize refCfg u) = true) :=
    hk.diffuse (h.ap ch) hg (apDepth refCfg s) lfo s.setup.aplen[ch] (hk.of_isZero _ hu)
  have hnet := hk.fdnStep h.dl hc h.filters (hdiffuse 0 (lfoOut refCfg s.active.cpx s.modulation).lfoA[8] hl).1
    (hdiffuse 1 (lfoOut refCfg s.active.cpx s.modulation).lfoA[9] hr).1 s.active.frz (depthSamples s)
    (lfoOut refCfg s.active.cpx s.modulation).mods
  obtain ⟨hdl, hf, hrsp⟩ := samplePhase_network refCfg left right s
  refine ⟨⟨?_, fun ch k => ?_, ?_⟩, ?_⟩
  · rw [hdl]
    exact hnet.1
  · match ch with
    | 0 => exact (hdiffuse 0 _ hl).2 k
    | 1 => exact (hdiffuse 1 _ hr).2 k
  · rw [hf]
    exact hnet.2
  · obtain ⟨hleft, hright⟩ := fdnStep_silent_out h.dl s.active.frz s.coeffs s.filters
      (diffuseChannel refCfg 0 (lfoOut refCfg s.active.cpx s.modulation).lfoA[8] left s).out
      (diffuseChannel refCfg 1 (lfoOut refCfg s.active.cpx s.modulation).lfoA[9] right s).out (depthSamples s)
      (lfoOut refCfg s.active.cpx s.modulation).mods
    rw [hrsp, networkStep, hleft, hright]
    rfl

end

/-- A zero operand is a zero sample (49_cmd_process.md R192). -/
theorem isZero_sanitize {u : Operand} (h : isZero (daz u) = true) : isZero (sanitize refCfg u) = true := by
  have hneg : fneg refCfg.inLimit = 0xC0000000#32 := by decide
  have hpos : refCfg.inLimit = 0x40000000#32 := rfl
  rw [sanitize, hneg, hpos, operandF32]
  rwa [fclamp_of_isZero (by decide) (by decide) (by rw [valueOf_two.2]; norm_num) (by rw [valueOf_two.1]; norm_num) h]

/-! ### Runs of silent samples (R144 (a)) -/

/-- A prepared engine whose network lines hold zeros, and whose other lines and filters hold zeros and NaNs. -/
def SilentlyPrepared (s : State) : Prop := s.setup.prepared = true ∧ Silent isZeroOrNaN s

theorem SilentlyPrepared.of_eq {s t : State} (h : SilentlyPrepared s) (hset : t.setup = s.setup) (hdl : t.dl = s.dl)
    (hap : t.ap = s.ap) (hf : t.filters = s.filters) : SilentlyPrepared t :=
  ⟨hset ▸ h.1, h.2.of_eq hdl hap hf⟩

/-- A silent sample keeps such an engine so, whatever its coefficients, and answers silence. -/
theorem processWith_silentlyPrepared {s : State} (h : SilentlyPrepared s) :
    SilentlyPrepared (processWith refCfg 0 0 s) ∧
      (processWith refCfg 0 0 s).rsp = some (.audio 0x0000000000000000#64) := by
  obtain ⟨hprep, hs⟩ := h
  have hsetup := processWith_setup refCfg 0 0 s
  have hzero : isZero (sanitize refCfg 0) = true := isZero_sanitize (by decide)
  have hcoeffs (k : Coeffs) : FilterCoeffsIn (fun _ => true) k :=
    ⟨fun _ => ⟨rfl, rfl, rfl⟩, rfl, rfl, rfl, rfl, rfl, rfl, rfl⟩
  have hphases := silenceKind_zeroOrNaN.smoothPhase_controlLatch hs
  have hsample := silenceKind_zeroOrNaN.samplePhase hphases (hcoeffs _) rfl hzero hzero
  rw [processWith, if_pos hprep] at hsetup ⊢
  exact ⟨⟨hsetup ▸ hprep, hsample.1⟩, hsample.2⟩

/-- PROCESS leaves the inputs that wait (49_cmd_process.md R193). -/
theorem processWith_inputs (c : Config) (left right : Operand) (s : State) :
    (processWith c left right s).inputs = s.inputs := by
  unfold processWith
  split
  · obtain ⟨-, -, -, -, -, hsample⟩ := samplePhase_frame c left right (smoothPhase c (controlLatch c s))
    obtain ⟨-, -, -, -, -, -, -, -, hsmooth⟩ := smoothPhase_spec c (controlLatch c s)
    obtain ⟨-, -, hlatch, -⟩ := controlLatch_spec c s
    exact hsample.trans (hsmooth.trans hlatch)
  · rfl

/-- A step at the word of a well-formed command runs the command (20_memory.md R50; 30_encoding.md R62). -/
theorem step_of_encode {s : State} {i : Instr} {rest : List Input} (hwf : i.wellFormed = true)
    (h : s.inputs = .word (encode i) :: rest) : step s = .next (commandWith refCfg i { s with inputs := rest }) := by
  rw [stepRunsDecodedCommand s _ rest i h (encodeDecodeRoundTrip i hwf), exec_eq_commandWith]

/-- A run goes on from the state its first step gives. -/
theorem run_succ {s t : State} (h : step s = .next t) (n : Nat) : Sys2Proof.core.run (n + 1) s = Sys2Proof.core.run n t := by
  have hcore : Sys2Proof.core.step s = .next t := h
  simp only [Host.Core.run, hcore]

/-- Silent samples on such an engine answer silence, by induction on their number. -/
theorem run_silent_samples (n : Nat) : ∀ s : State, SilentlyPrepared s →
    s.inputs = List.replicate (n + 1) (.word (encode (.process 0 0))) →
    ∃ t, Sys2Proof.core.run (n + 1) s = .next t ∧ t.rsp = some (.audio 0x0000000000000000#64) := by
  induction n with
  | zero =>
    intro s hs hin
    have hrest : SilentlyPrepared { s with inputs := [] } := hs.of_eq rfl rfl rfl rfl
    refine ⟨_, ?_, (processWith_silentlyPrepared hrest).2⟩
    rw [run_succ (step_of_encode rfl hin)]
    rfl
  | succ n ih =>
    intro s hs hin
    have hrest : SilentlyPrepared { s with inputs := List.replicate (n + 1) (.word (encode (.process 0 0))) } :=
      hs.of_eq rfl rfl rfl rfl
    rw [run_succ (step_of_encode rfl hin)]
    exact ih _ (processWith_silentlyPrepared hrest).1 (processWith_inputs ..)

/-- An accepted PREPARE, and a RESET of a prepared engine, leave a silent one (47_cmd_lifecycle.md R171, R172). -/
theorem commandWith_silentlyPrepared {first : Instr} {s : State}
    (h : (∃ rate block, first = .prepare rate block ∧ prepareRefused rate block = false) ∨
      (first = .reset ∧ s.setup.prepared = true)) :
    first.wellFormed = true ∧ SilentlyPrepared (commandWith refCfg first s) ∧
      (commandWith refCfg first s).inputs = s.inputs := by
  obtain ⟨rate, block, rfl, haccept⟩ | ⟨rfl, hprep⟩ := h
  · refine ⟨rfl, ?_⟩
    rw [commandWith, prepareWith, haccept, if_neg Bool.false_ne_true]
    exact ⟨⟨rfl, silenceKind_zeroOrNaN.of_cleared rfl rfl rfl⟩, rfl⟩
  · exact ⟨rfl, ⟨hprep, silenceKind_zeroOrNaN.of_cleared rfl rfl rfl⟩, rfl⟩

/-- Settles O32: the first command leaves a silent engine, and silent samples keep it so, whatever the registers are. -/
theorem silenceAfterPrepareOrReset : Obligations.SilenceAfterPrepareOrReset := by
  intro first n s _ hfirst hin
  obtain ⟨hwf, hsilent, hinputs⟩ :=
    commandWith_silentlyPrepared (s := { s with inputs := List.replicate (n + 1) (.word (encode (.process 0 0))) }) hfirst
  rw [run_succ (step_of_encode hwf hin)]
  exact run_silent_samples n _ hsilent hinputs

end Sys2Proof.Machine

/-! The current values of the smoothers after one PROCESS (spec/46_param_smoothing.md R161, R162, R166): on a legal ramp
every current value lies between the ramp's start and its target. -/

namespace Sys2Proof.Machine

set_option Elab.async false

/-! ### The legal ranges, in values (10_state.md R31) -/

/-- The ends of the legal ranges are numbers that no operation flushes, far from the overflow limit. -/
theorem range_words : ∀ k : Fin 14, isFinite refCfg.pmin[k] = true ∧ isFinite refCfg.pmax[k] = true ∧
    scaledMag refCfg.pmin[k] ≤ 2 ^ 169 ∧ scaledMag refCfg.pmax[k] ≤ 2 ^ 169 := by decide +kernel

/-- The least and the greatest legal value of a parameter (10_state.md R31). -/
def rangeMin (k : Fin 14) : ℚ := valueOf refCfg.pmin[k]
def rangeMax (k : Fin 14) : ℚ := valueOf refCfg.pmax[k]

theorem representable_range (k : Fin 14) : Representable (rangeMin k) ∧ Representable (rangeMax k) := by
  obtain ⟨hmin, hmax, -, -⟩ := range_words k
  obtain ⟨hsmin, hsmax⟩ := isSubnormal_range k
  exact ⟨representable_valueOf hmin hsmin, representable_valueOf hmax hsmax⟩

theorem abs_range_le (k : Fin 14) : |rangeMin k| ≤ 2 ^ 20 ∧ |rangeMax k| ≤ 2 ^ 20 := by
  have hunits {n : Nat} (h : n ≤ 2 ^ 169) : (n : ℚ) / 2 ^ 149 ≤ 2 ^ 20 := by
    rw [div_le_iff₀ (by positivity)]
    calc (n : ℚ) ≤ 2 ^ 169 := by exact_mod_cast h
      _ = 2 ^ 20 * 2 ^ 149 := by norm_num
  obtain ⟨-, -, hmin, hmax⟩ := range_words k
  rw [rangeMin, rangeMax, abs_valueOf, abs_valueOf]
  exact ⟨hunits hmin, hunits hmax⟩

/-- A legal value, in values. -/
theorem legalParam_iff {k : Fin 14} {v : F32} :
    legalParam k v = true ↔ isFinite v = true ∧ rangeMin k ≤ valueOf v ∧ valueOf v ≤ rangeMax k := by
  obtain ⟨hmin, hmax, -, -⟩ := range_words k
  exact within_iff hmin hmax

/-- An operation sees a legal value in a legal parameter. -/
theorem operandValue_of_legalParam {k : Fin 14} {v : F32} (h : legalParam k v = true) :
    rangeMin k ≤ operandValue v ∧ operandValue v ≤ rangeMax k := by
  obtain ⟨-, hlow, hhigh⟩ := legalParam_iff.mp h
  obtain ⟨hmin, hmax⟩ := representable_range k
  exact valueOf_ftz_between hmin hmax hlow hhigh

/-! ### A point of a ramp lies between its ends (46_param_smoothing.md R161, R162) -/

/-- Three roundings do not make up for one step in `2^16`. -/
theorem factor_le_one {ramp left θ₁ θ₂ θ₃ : ℚ} (hpos : 0 < ramp) (hramp : ramp ≤ 2 ^ 16) (hleft0 : 0 ≤ left)
    (hleft : left ≤ ramp - 1) (h₁ : 0 ≤ θ₁) (h₁' : θ₁ ≤ 1 + 1 / 2 ^ 23) (h₂ : 0 ≤ θ₂) (h₂' : θ₂ ≤ 1 + 1 / 2 ^ 23)
    (h₃' : θ₃ ≤ 1 + 1 / 2 ^ 23) : θ₃ * (left * (θ₂ * (θ₁ / ramp))) ≤ 1 := by
  have hpart : left / ramp ≤ 1 - 1 / 2 ^ 16 := by
    rw [div_le_iff₀ hpos]
    linarith
  calc θ₃ * (left * (θ₂ * (θ₁ / ramp))) = θ₃ * θ₂ * θ₁ * (left / ramp) := by ring
    _ ≤ (1 + 1 / 2 ^ 23) * (1 + 1 / 2 ^ 23) * (1 + 1 / 2 ^ 23) * (1 - 1 / 2 ^ 16) := by gcongr
    _ ≤ 1 := by norm_num

/-- The way still to go, `left * inc`, is a part of the way from the start to the target. -/
theorem ramp_remainder {tgt start : F32} {ramp left : Nat} (htgt : isFinite tgt = true) (hstart : isFinite start = true)
    (hbound : |operandValue tgt - operandValue start| ≤ 2 ^ 22) (hramp : ramp < 2 ^ 16) (hleft : left < ramp) :
    ∃ φ : ℚ, 0 ≤ φ ∧ φ ≤ 1 ∧ isFinite (fmul (i2f left) (fdiv (fsub tgt start) (i2f ramp))) = true ∧
      operandValue (fmul (i2f left) (fdiv (fsub tgt start) (i2f ramp))) =
        φ * (operandValue tgt - operandValue start) := by
  obtain ⟨hrfin, hrvalue⟩ := valueOf_i2f (n := ramp) (by omega)
  obtain ⟨hlfin, hlvalue⟩ := valueOf_i2f (n := left) (by omega)
  rw [← operandValue_of_not_isSubnormal (isSubnormal_i2f _)] at hrvalue hlvalue
  have hrone : (1 : ℚ) ≤ ramp := by exact_mod_cast (by omega : 1 ≤ ramp)
  have hrpos : (0 : ℚ) < ramp := by linarith
  have hrle : (ramp : ℚ) ≤ 2 ^ 16 := by exact_mod_cast hramp.le
  have hstep : (left : ℚ) ≤ ramp - 1 := by
    have : (left : ℚ) + 1 ≤ ramp := by exact_mod_cast hleft
    linarith
  have hdiff := fsub_rounds htgt hstart
  have hdlimit : |operandValue tgt - operandValue start| ≤ 2 ^ 100 := hbound.trans (by norm_num)
  obtain ⟨θ₁, h₁, h₁', hd⟩ := hdiff.exists_factor hdlimit
  have hinc := fdiv_rounds (hdiff.isFinite hdlimit) hrfin (by rw [hrvalue]; exact hrpos.ne')
  have hdabs := hdiff.abs_le_mul hdlimit
  rw [hdiff.operandValue, hrvalue] at hinc
  have hiabs : |valueOf (fsub tgt start) / ramp| ≤ 2 ^ 23 := by
    rw [abs_div, abs_of_pos hrpos, div_le_iff₀ hrpos]
    linarith
  have hilimit := hiabs.trans (by norm_num : (2 : ℚ) ^ 23 ≤ 2 ^ 100)
  obtain ⟨θ₂, h₂, h₂', hi⟩ := hinc.exists_factor hilimit
  have hprod := fmul_rounds hlfin (hinc.isFinite hilimit)
  have hincabs := hinc.abs_le_mul hilimit
  rw [hinc.operandValue, hlvalue] at hprod
  have hplimit : |(left : ℚ) * valueOf (fdiv (fsub tgt start) (i2f ramp))| ≤ 2 ^ 100 := by
    rw [abs_mul, abs_of_nonneg (Nat.cast_nonneg left)]
    calc (left : ℚ) * |valueOf (fdiv (fsub tgt start) (i2f ramp))| ≤ 2 ^ 16 * 2 ^ 24 := by gcongr <;> linarith
      _ ≤ 2 ^ 100 := by norm_num
  obtain ⟨θ₃, h₃, h₃', hp⟩ := hprod.exists_factor hplimit
  refine ⟨θ₃ * (left * (θ₂ * (θ₁ / ramp))), by positivity,
    factor_le_one hrpos hrle (Nat.cast_nonneg left) hstep h₁ h₁' h₂ h₂' h₃', hprod.isFinite hplimit, ?_⟩
  rw [hprod.operandValue, hp, hi, hd]
  ring

/-- A current value on a legal ramp is legal (R166 (c)). -/
theorem legalParam_ramp {k : Fin 14} {tgt start : F32} {ramp left : Nat} (htgt : legalParam k tgt = true)
    (hstart : legalParam k start = true) (hramp : ramp < 2 ^ 16) (hleft : left < ramp) :
    legalParam k (fsub tgt (fmul (i2f left) (fdiv (fsub tgt start) (i2f ramp)))) = true := by
  obtain ⟨htlow, hthigh⟩ := operandValue_of_legalParam htgt
  obtain ⟨hslow, hshigh⟩ := operandValue_of_legalParam hstart
  obtain ⟨hmin, hmax⟩ := abs_range_le k
  have htfin := (legalParam_iff.mp htgt).1
  have hbound : |operandValue tgt - operandValue start| ≤ 2 ^ 22 := by
    rw [abs_le] at *
    constructor <;> linarith
  obtain ⟨φ, h0, h1, hfin, hvalue⟩ := ramp_remainder htfin (legalParam_iff.mp hstart).1 hbound hramp hleft
  have hround := fsub_rounds htfin hfin
  rw [hvalue] at hround
  obtain ⟨hrmin, hrmax⟩ := representable_range k
  exact legalParam_iff.mpr (hround.between hrmin hrmax (by nlinarith) (by nlinarith))

/-! ### The smoothers after one PROCESS (R161 to R164) -/

/-- A record on a legal ramp (R161, R166). -/
structure OnLegalRamp (ramp : BitVec 16) (k : Fin 14) (m : Smoother) : Prop where
  cnt_le : m.cnt.toNat ≤ ramp.toNat
  tgt : legalParam k m.tgt = true
  cur : legalParam k m.cur = true
  inc : m.cnt ≠ 0 → ∃ start, legalParam k start = true ∧ m.inc = fdiv (fsub m.tgt start) (i2f ramp.toNat)

section
variable {ramp : BitVec 16} {k : Fin 14} {m : Smoother} {p : F32}

/-- SNAP gives an idle record on its target (R164). -/
theorem onLegalRamp_snapped (h : legalParam k p = true) : OnLegalRamp ramp k (snapped p) :=
  ⟨Nat.zero_le _, h, h, fun hmoving => absurd rfl hmoving⟩

/-- RETARGET starts a new ramp at the current value (R161). -/
theorem OnLegalRamp.retarget (h : OnLegalRamp ramp k m) (hp : legalParam k p = true) :
    OnLegalRamp ramp k (retarget ramp p m) := by
  unfold Machine.retarget
  split
  · exact ⟨le_rfl, hp, h.cur, fun _ => ⟨m.cur, h.cur, rfl⟩⟩
  · exact h

/-- ADVANCE keeps the current value legal (R162). -/
theorem OnLegalRamp.advance_cur (h : OnLegalRamp ramp k m) : legalParam k (advance m).cur = true := by
  cases hmoving : moving m with
  | false => rw [advance_of_not_moving hmoving]; exact h.cur
  | true =>
    have hne : m.cnt ≠ 0 := by simpa [moving] using hmoving
    obtain ⟨start, hstart, hinc⟩ := h.inc hne
    have hleft : (m.cnt - 1).toNat < ramp.toNat := by
      have := h.cnt_le
      bv_omega
    rw [advance, if_pos hmoving]
    dsimp only
    split
    · exact h.tgt
    · rw [hinc]
      exact legalParam_ramp h.tgt hstart ramp.isLt hleft

end

/-- The records after CONTROLLATCH are on legal ramps (49_cmd_process.md R191). -/
theorem controlLatch_onLegalRamp {s : State} (htargets : TargetsLegal s) (hsm : SmoothersWellFormed s)
    (hramps : RampsLegal s) (k : Fin 14) : OnLegalRamp s.setup.ramp k (controlLatch refCfg s).smoothers[k] := by
  obtain ⟨htgt, hcur, hinc⟩ := hramps k
  rw [controlLatch_smoother, latchedSmoother]
  split
  · exact ⟨(hsm k).1, htgt, hcur, hinc⟩
  · exact onLegalRamp_snapped (htargets k)

/-- The current values that PROCESS uses are legal (R166 (c)). -/
theorem smoothPhase_controlLatch_legal {s : State} (htargets : TargetsLegal s) (hsm : SmoothersWellFormed s)
    (hramps : RampsLegal s) (k : Fin 14) :
    legalParam k (smoothPhase refCfg (controlLatch refCfg s)).smoothers[k].cur = true := by
  obtain ⟨-, -, -, hsmoothers, -⟩ := smoothPhase_spec refCfg (controlLatch refCfg s)
  have hrecord : (smoothPhase refCfg (controlLatch refCfg s)).smoothers[k] =
      advance (retarget s.setup.ramp s.targets.pt[k] (controlLatch refCfg s).smoothers[k]) := by
    rw [hsmoothers, controlLatch_setup, controlLatch_targets, smoothStep, retargetAll]
    simp
  rw [hrecord]
  exact ((controlLatch_onLegalRamp htargets hsm hramps k).retarget (htargets k)).advance_cur

end Sys2Proof.Machine

/-! Ranges of results, and the ranges of the exponentials and of the sine and cosine (spec/40_numerics.md R86 to R88):
what the reference `NUM` answers to the arguments that RECOMPUTE gives it. -/

namespace Sys2Proof.Machine

set_option Elab.async false

/-! ### Ranges -/

/-- A finite number that an operation sees between two bounds. -/
structure InRange (lo hi : ℚ) (v : F32) : Prop where
  fin : isFinite v = true
  low : lo ≤ operandValue v
  high : operandValue v ≤ hi

theorem Rounds.inRange {x lo hi : ℚ} {z : F32} (h : Rounds x z) (hlo : Representable lo) (hhi : Representable hi)
    (hx : lo ≤ x) (hx' : x ≤ hi) : InRange lo hi z := by
  obtain ⟨hfin, hlow, hhigh⟩ := h.between hlo hhi hx hx'
  rw [← h.operandValue] at hlow hhigh
  exact ⟨hfin, hlow, hhigh⟩

/-! ### The exponentials (40_numerics.md R86, R87) -/

/-- Each term of the series adds at most as much as the one before, and nothing is subtracted. -/
theorem expTerms_bounds (fuel : Nat) : ∀ n r term acc : Nat, r ≤ 2 ^ 256 →
    acc ≤ expTerms fuel n r term acc ∧ expTerms fuel n r term acc ≤ acc + fuel * term := by
  induction fuel with
  | zero => intro n r term acc _; simp [expTerms]
  | succ fuel ih =>
    intro n r term acc hr
    have hterm : fixMul term r / (n + 1) ≤ term := by
      refine (Nat.div_le_self _ _).trans ?_
      rw [fixMul, fixBits]
      exact Nat.div_le_of_le_mul (by rw [Nat.mul_comm]; exact Nat.mul_le_mul_right _ hr)
    obtain ⟨hlow, hhigh⟩ := ih (n + 1) r (fixMul term r / (n + 1)) (acc + fixMul term r / (n + 1)) hr
    rw [expTerms]
    generalize fixMul term r / (n + 1) = next at *
    have hmul : fuel * next ≤ fuel * term := Nat.mul_le_mul_left _ hterm
    rw [Nat.succ_mul]
    omega

/-- `e^r` in fixed point is at least 1 and at most 65. -/
theorem fixExp_bounds {r : Nat} (h : r ≤ 2 ^ 256) : 2 ^ 256 ≤ fixExp r ∧ fixExp r ≤ 65 * 2 ^ 256 := by
  obtain ⟨hlow, hhigh⟩ := expTerms_bounds 64 0 r (2 ^ 256) (2 ^ 256) h
  exact ⟨hlow, hhigh.trans (by norm_num)⟩

/-- `e^y` for a negative `y` in fixed point: at most 65, and at least a power of 1/2. -/
theorem expRounded_of_neg {y : Int} (h : y < 0) :
    ∃ x : ℚ, Rounds x (expRounded y) ∧ 1 / 2 ^ (y.natAbs / fixLn2 + 1) ≤ x ∧ x ≤ 65 := by
  set k := y.natAbs / fixLn2 + 1
  have hr : k * fixLn2 - y.natAbs ≤ 2 ^ 256 := by
    have hmod := Nat.div_add_mod' y.natAbs fixLn2
    have hln : fixLn2 ≤ 2 ^ 256 := by decide
    have hk : k * fixLn2 = y.natAbs / fixLn2 * fixLn2 + fixLn2 := Nat.succ_mul ..
    omega
  obtain ⟨hlow, hhigh⟩ := fixExp_bounds hr
  have hlow' : (2 ^ 256 : ℚ) ≤ fixExp (k * fixLn2 - y.natAbs) := by exact_mod_cast hlow
  have hhigh' : (fixExp (k * fixLn2 - y.natAbs) : ℚ) ≤ 65 * 2 ^ 256 := by exact_mod_cast hhigh
  have hpos : 0 < fixExp (k * fixLn2 - y.natAbs) * 2 ^ 149 := by positivity
  have hvalue : signedValue false (fixExp (k * fixLn2 - y.natAbs) * 2 ^ 149) (2 ^ (256 + k)) =
      fixExp (k * fixLn2 - y.natAbs) / 2 ^ 256 / 2 ^ k := by
    rw [signedValue, signedMag, if_neg Bool.false_ne_true]
    push_cast
    rw [pow_add]
    field_simp
    norm_num
  refine ⟨_, .inr ⟨_, hvalue ▸ isRounding_rnd false hpos (by positivity), ?_⟩, ?_, ?_⟩
  · rw [expRounded, if_neg (not_le.mpr h), fixBits]
  · gcongr
    rwa [one_le_div (by positivity)]
  · rw [div_div, div_le_iff₀ (by positivity)]
    have : (1 : ℚ) ≤ 2 ^ k := one_le_pow₀ (by norm_num)
    nlinarith

theorem representable_one : Representable 1 := by simpa using representable_int (n := 1) (by decide)

theorem representable_quarter : Representable (1 / 4) := by
  refine ⟨0x3E800000#32, by decide, by decide, ?_⟩
  rw [valueOf, show scaled 0x3E800000#32 = 2 ^ 147 by decide +kernel]
  norm_num

/-- `e^y` for a `y` that is not positive, in fixed point. -/
theorem expRounded_of_nonpos {y : Int} (h : y ≤ 0) :
    InRange 0 128 (expRounded y) ∧ (y.natAbs < 2 * fixLn2 → 1 / 4 ≤ operandValue (expRounded y)) := by
  have h128 : Representable 128 := by simpa using representable_int (n := 128) (by decide)
  obtain hneg | rfl := h.lt_or_eq
  · obtain ⟨x, hround, hlow, hhigh⟩ := expRounded_of_neg hneg
    have hpos : 0 ≤ x := le_trans (by positivity) hlow
    refine ⟨hround.inRange representable_zero h128 hpos (by linarith), fun hsmall => ?_⟩
    have hk : y.natAbs / fixLn2 + 1 ≤ 2 := Nat.succ_le_of_lt (Nat.div_lt_of_lt_mul (by omega))
    have hquarter : (1 / 4 : ℚ) ≤ 1 / 2 ^ (y.natAbs / fixLn2 + 1) := by
      rw [div_le_div_iff₀ (by norm_num) (by positivity), one_mul, one_mul]
      calc (2 : ℚ) ^ (y.natAbs / fixLn2 + 1) ≤ 2 ^ 2 := pow_le_pow_right₀ (by norm_num) hk
        _ = 4 := by norm_num
    exact (hround.inRange representable_quarter h128 (hquarter.trans hlow) (by linarith)).low
  · have hone : expRounded 0 = 0x3F800000#32 := by decide +kernel
    rw [hone]
    have hvalue := operandValue_tapEntries.1
    exact ⟨⟨by decide, by rw [hvalue]; norm_num, by rw [hvalue]; norm_num⟩, fun _ => by rw [hvalue]; norm_num⟩

/-- The fixed-point argument of an exponential (40_numerics.md R86, R87). -/
def expArg (c : Nat) (x : F32) : Int :=
  if 0 ≤ toFix x * c then toFix x * c / 2 ^ fixBits else -(-(toFix x * c) / 2 ^ fixBits)

theorem scaled_nonpos {x : F32} (h : valueOf x ≤ 0) : scaled x ≤ 0 := by
  rw [valueOf, div_le_iff₀ (by positivity), zero_mul] at h
  exact_mod_cast h

theorem expArg_nonpos (c : Nat) {x : F32} (h : valueOf x ≤ 0) : expArg c x ≤ 0 := by
  have hy : toFix x * c ≤ 0 :=
    mul_nonpos_of_nonpos_of_nonneg (mul_nonpos_of_nonpos_of_nonneg (scaled_nonpos h) (by positivity)) (by positivity)
  unfold expArg
  split
  · rw [le_antisymm hy ‹_›, Int.zero_ediv]
  · exact neg_nonpos.mpr (Int.ediv_nonneg (by omega) (by positivity))

/-- An exponential of a number that is not positive. -/
theorem expScaled_of_nonpos (c : Nat) {x : F32} (hfin : isFinite x = true) (hx : valueOf x ≤ 0) :
    InRange 0 128 (expScaled c x) ∧
      (-128 ≤ valueOf x → expScaled c x = expRounded (expArg c x)) := by
  have hword : valueOf 0x43000000#32 = 128 ∧ valueOf 0xC3000000#32 = -128 := by
    constructor
    · rw [valueOf, show scaled 0x43000000#32 = 128 * 2 ^ 149 by decide +kernel]
      norm_num
    · rw [valueOf, show scaled 0xC3000000#32 = -128 * 2 ^ 149 by decide +kernel]
      norm_num
  have hhigh : flt 0x43000000#32 x = false := by
    rw [← Bool.not_eq_true, (comparisons_of_isFinite (by decide) hfin).1, hword.1]
    linarith
  have hlow : flt x 0xC3000000#32 = true ↔ valueOf x < -128 := by
    rw [(comparisons_of_isFinite hfin (by decide)).1, hword.2]
  have hexp : expScaled c x = if flt x 0xC3000000#32 then fzero else expRounded (expArg c x) := by
    simp only [expScaled, (isFinite_class hfin).1, hhigh, Bool.false_eq_true, if_false]
    rfl
  have hzero : operandValue fzero = 0 := operandValue_of_isZero (by decide)
  rw [hexp]
  split
  · next hsmall => exact ⟨⟨by decide, hzero.ge, by rw [hzero]; norm_num⟩, fun h => absurd (hlow.mp hsmall) (by linarith)⟩
  · exact ⟨(expRounded_of_nonpos (expArg_nonpos c hx)).1, fun _ => rfl⟩

/-- `10^x` for `x` from -1/2 to 0 is at least 1/4. -/
theorem refPow10_low {x : F32} (hfin : isFinite x = true) (hx : valueOf x ≤ 0) (hlow : -1 / 2 ≤ valueOf x) :
    1 / 4 ≤ operandValue (refPow10 x) := by
  rw [refPow10, (expScaled_of_nonpos fixLn10 hfin hx).2 (by linarith)]
  refine (expRounded_of_nonpos (expArg_nonpos fixLn10 hx)).2 ?_
  have hscaled := scaled_nonpos hx
  have hscaled' : -2 ^ 148 ≤ scaled x := by
    rw [valueOf, le_div_iff₀ (by positivity)] at hlow
    have : ((-2 ^ 148 : Int) : ℚ) ≤ scaled x := by push_cast; linarith
    exact_mod_cast this
  unfold expArg toFix fixBits fixLn10 fixLn2
  split <;> omega

/-! ### The sine and the cosine (40_numerics.md R88) -/

/-- Each term of the series is at most as great as the one before. -/
theorem sinTerms_bound (fuel : Nat) : ∀ (k sq term : Nat) (neg : Bool) (acc : Int), sq ≤ 4 * 2 ^ 256 →
    sinTerms fuel k sq term neg acc ≤ acc + fuel * term := by
  induction fuel with
  | zero => intro k sq term neg acc _; simp [sinTerms]
  | succ fuel ih =>
    intro k sq term neg acc hsq
    have hterm : fixMul term sq / ((2 * k + 2) * (2 * k + 3)) ≤ term := by
      have hfour : fixMul term sq ≤ 4 * term := by
        rw [fixMul, fixBits]
        refine Nat.div_le_of_le_mul ?_
        calc term * sq ≤ term * (4 * 2 ^ 256) := Nat.mul_le_mul_left _ hsq
          _ = 2 ^ 256 * (4 * term) := by ring
      refine Nat.div_le_of_le_mul (hfour.trans (Nat.mul_le_mul_right _ ?_))
      nlinarith
    rw [sinTerms]
    generalize fixMul term sq / ((2 * k + 2) * (2 * k + 3)) = next at *
    have hrec := ih (k + 1) sq next (!neg) (if neg then acc - next else acc + next) hsq
    have hmul : fuel * next ≤ fuel * term := Nat.mul_le_mul_left _ hterm
    have hacc : (if neg then acc - next else acc + next : Int) ≤ acc + next := by split <;> omega
    push_cast
    rw [Int.add_mul]
    zify at hmul hterm
    omega

/-- The sine of a quarter turn, in fixed point. -/
theorem quarterSin_le {f : Nat} (h : f ≤ 2 ^ 256) : quarterSin f ≤ 128 * 2 ^ 256 := by
  have htheta : fixMul f fixHalfPi ≤ 2 * 2 ^ 256 := by
    rw [fixMul, fixBits]
    refine Nat.div_le_of_le_mul (Nat.mul_le_mul h ?_)
    decide
  have hsq : fixMul (fixMul f fixHalfPi) (fixMul f fixHalfPi) ≤ 4 * 2 ^ 256 := by
    conv_lhs => rw [fixMul, fixBits]
    refine Nat.div_le_of_le_mul ((Nat.mul_le_mul htheta htheta).trans (Eq.le ?_))
    ring
  have hsum := sinTerms_bound 36 0 _ (fixMul f fixHalfPi) true (fixMul f fixHalfPi) hsq
  unfold quarterSin
  dsimp only
  omega

/-- A fixed-point number of magnitude at most 128, rounded. -/
theorem roundFix_inRange (neg : Bool) {y : Nat} (h : y ≤ 128 * 2 ^ 256) :
    InRange (-128) 128 (roundFix neg y) ∧ (neg = false → 0 ≤ operandValue (roundFix neg y)) := by
  have h128 : Representable 128 := by simpa using representable_int (n := 128) (by decide)
  have hzero : operandValue fzero = 0 := operandValue_of_isZero (by decide)
  unfold roundFix
  split
  · exact ⟨⟨by decide, by rw [hzero]; norm_num, by rw [hzero]; norm_num⟩, fun _ => hzero.ge⟩
  · next hne =>
    have habs : |signedValue neg (y * 2 ^ 149) (2 ^ fixBits)| ≤ 128 := by
      rw [abs_signedValue, fixBits, div_le_iff₀ (by positivity)]
      have : (y : ℚ) ≤ 128 * 2 ^ 256 := by exact_mod_cast h
      push_cast
      linarith
    have hround : Rounds _ (ftz (rnd neg (y * 2 ^ 149) (2 ^ fixBits))) :=
      .inr ⟨_, isRounding_rnd neg (by positivity) (by positivity), rfl⟩
    obtain ⟨hlow, hhigh⟩ := abs_le.mp habs
    refine ⟨hround.inRange h128.neg h128 hlow hhigh, fun hneg => ?_⟩
    refine (hround.inRange representable_zero h128 ?_ hhigh).low
    rw [hneg, signedValue, signedMag, if_neg Bool.false_ne_true]
    positivity

/-- The fraction of a quarter turn that `turnSin` takes the sine of lies in the quarter. -/
theorem turnSin_inRange (quarters : Nat) (t : F32) : InRange (-128) 128 (turnSin quarters t) := by
  unfold turnSin
  dsimp only
  refine (roundFix_inRange _ (quarterSin_le ?_)).1
  rw [fixBits]
  split <;> omega

/-- The sine of less than half a turn is not negative. -/
theorem refSin2pi_nonneg {t : F32} (hfin : isFinite t = true) (hlow : 0 ≤ valueOf t) (hhigh : valueOf t < 1 / 2) :
    InRange 0 128 (refSin2pi t) := by
  rw [refSin2pi, if_pos hfin]
  obtain ⟨hfin', -, hle⟩ := turnSin_inRange 0 t
  refine ⟨hfin', ?_, hle⟩
  have hscaled : 0 ≤ scaled t := by
    rw [valueOf, le_div_iff₀ (by positivity), zero_mul] at hlow
    exact_mod_cast hlow
  have hscaled' : scaled t < 2 ^ 148 := by
    rw [valueOf, div_lt_iff₀ (by positivity)] at hhigh
    have : (scaled t : ℚ) < (2 ^ 148 : Int) := by push_cast; linarith
    exact_mod_cast this
  have hquarter : 4 * (toFix t % ((2 ^ fixBits : Nat) : Int)).toNat / 2 ^ fixBits < 2 := by
    unfold toFix fixBits
    omega
  unfold turnSin
  dsimp only
  refine (roundFix_inRange _ (quarterSin_le ?_)).2 (decide_eq_false ?_)
  · rw [fixBits]
    split <;> omega
  · generalize 4 * (toFix t % ((2 ^ fixBits : Nat) : Int)).toNat / 2 ^ fixBits = quarter at *
    omega

theorem refCos2pi_inRange {t : F32} (hfin : isFinite t = true) : InRange (-128) 128 (refCos2pi t) := by
  rw [refCos2pi, if_pos hfin]
  exact turnSin_inRange 1 t

end Sys2Proof.Machine

/-! The coefficients (spec/43_decay_filter.md R121 to R125; spec/40_numerics.md R89): from legal parameters and a
legal rate every coefficient is a finite number, and so silence stays silence (spec/44_fdn_core.md R144). -/

namespace Sys2Proof.Machine

set_option Elab.async false

/-! ### Magnitudes and signs of results (40_numerics.md R82) -/

section
variable {a b z : F32} {A B x : ℚ}

/-- The magnitude of a result is at most twice that of the exact one. -/
theorem Rounds.magnitudeLe (h : Rounds x z) (hx : |x| ≤ A) (hA : A ≤ 2 ^ 100) : MagnitudeLe (2 * A) z := by
  have hmul := h.abs_le_mul (hx.trans hA)
  refine ⟨h.isFinite (hx.trans hA), ?_⟩
  rw [h.operandValue]
  linarith [abs_nonneg x]

/-- Rounding keeps a sign. -/
theorem Rounds.operandValue_nonneg (h : Rounds x z) (hx : |x| ≤ 2 ^ 100) (hpos : 0 ≤ x) : 0 ≤ Machine.operandValue z := by
  obtain ⟨θ, hθ, -, hz⟩ := h.exists_factor hx
  rw [h.operandValue, hz]
  positivity

theorem Rounds.operandValue_nonpos (h : Rounds x z) (hx : |x| ≤ 2 ^ 100) (hneg : x ≤ 0) : Machine.operandValue z ≤ 0 := by
  obtain ⟨θ, hθ, -, hz⟩ := h.exists_factor hx
  rw [h.operandValue, hz]
  exact mul_nonpos_of_nonneg_of_nonpos hθ hneg

variable (ha : MagnitudeLe A a) (hb : MagnitudeLe B b)
include ha hb

theorem MagnitudeLe.fadd (h : A + B ≤ 2 ^ 100) : MagnitudeLe (2 * (A + B)) (fadd a b) :=
  (fadd_rounds ha.1 hb.1).magnitudeLe ((abs_add_le _ _).trans (add_le_add ha.2 hb.2)) h

theorem MagnitudeLe.fsub (h : A + B ≤ 2 ^ 100) : MagnitudeLe (2 * (A + B)) (fsub a b) :=
  (fsub_rounds ha.1 hb.1).magnitudeLe ((abs_sub _ _).trans (add_le_add ha.2 hb.2)) h

theorem abs_mul_le : |operandValue a * operandValue b| ≤ A * B := by
  rw [abs_mul]
  exact mul_le_mul ha.2 hb.2 (abs_nonneg _) ((abs_nonneg _).trans ha.2)

theorem MagnitudeLe.fmul (h : A * B ≤ 2 ^ 100) : MagnitudeLe (2 * (A * B)) (fmul a b) :=
  (fmul_rounds ha.1 hb.1).magnitudeLe (abs_mul_le ha hb) h

/-- The sign of a product of numbers of unlike signs. -/
theorem fmul_nonpos (h : A * B ≤ 2 ^ 100) (hneg : operandValue a ≤ 0) (hpos : 0 ≤ operandValue b) :
    operandValue (fmul a b) ≤ 0 :=
  (fmul_rounds ha.1 hb.1).operandValue_nonpos ((abs_mul_le ha hb).trans h) (mul_nonpos_of_nonpos_of_nonneg hneg hpos)

end

section
variable {a b : F32} {A : ℚ} (ha : MagnitudeLe A a) (hlow : 1 / 16 ≤ operandValue b)
include ha hlow

/-- The quotient by a divisor of at least 1/16. -/
theorem abs_div_le : |operandValue a / operandValue b| ≤ 16 * A := by
  have hpos : (0 : ℚ) < operandValue b := by linarith
  have hA : 0 ≤ A := (abs_nonneg _).trans ha.2
  rw [abs_div, abs_of_pos hpos, div_le_iff₀ hpos]
  have := ha.2
  nlinarith

variable (hb : isFinite b = true)
include hb

theorem MagnitudeLe.fdiv (h : 16 * A ≤ 2 ^ 100) : MagnitudeLe (2 * (16 * A)) (fdiv a b) :=
  (fdiv_rounds ha.1 hb (by linarith)).magnitudeLe (abs_div_le ha hlow) h

/-- The sign of a quotient is that of its dividend. -/
theorem fdiv_nonneg (h : 16 * A ≤ 2 ^ 100) (hpos : 0 ≤ operandValue a) : 0 ≤ operandValue (fdiv a b) :=
  (fdiv_rounds ha.1 hb (by linarith)).operandValue_nonneg ((abs_div_le ha hlow).trans h) (div_nonneg hpos (by linarith))

theorem fdiv_nonpos (h : 16 * A ≤ 2 ^ 100) (hneg : operandValue a ≤ 0) : operandValue (fdiv a b) ≤ 0 :=
  (fdiv_rounds ha.1 hb (by linarith)).operandValue_nonpos ((abs_div_le ha hlow).trans h)
    (div_nonpos_of_nonpos_of_nonneg hneg (by linarith))

end

theorem InRange.magnitudeLe {lo hi A : ℚ} {v : F32} (h : InRange lo hi v) (hlo : -A ≤ lo) (hhi : hi ≤ A) :
    MagnitudeLe A v := ⟨h.fin, abs_le.mpr ⟨hlo.trans h.low, h.high.trans hhi⟩⟩

/-- A word with a known scaled value. -/
theorem operandValue_word {v : F32} {n : Int} (hsub : isSubnormal v = false) (h : scaled v = n) :
    operandValue v = n / 2 ^ 149 := by
  rw [operandValue_of_not_isSubnormal hsub, valueOf, h]

/-- The constants of the coefficients (40_numerics.md R90; 10_state.md R6). -/
theorem constants_magnitudeLe : MagnitudeLe 4 fminus3 ∧ MagnitudeLe 2 fminus2 ∧ MagnitudeLe 2 ftwo ∧ MagnitudeLe 1 fone ∧
    MagnitudeLe 8 (fneg refCfg.twoPi) := by
  have hword {v : F32} {n : Int} {A : ℚ} (hfin : isFinite v = true) (hsub : isSubnormal v = false) (h : scaled v = n)
      (hA : |(n : ℚ)| ≤ A * 2 ^ 149) : MagnitudeLe A v := by
    refine ⟨hfin, ?_⟩
    rwa [operandValue_word hsub h, abs_div, abs_of_pos (by positivity : (0 : ℚ) < 2 ^ 149), div_le_iff₀ (by positivity)]
  refine ⟨hword (n := -3 * 2 ^ 149) ?_ ?_ ?_ ?_, hword (n := -2 * 2 ^ 149) ?_ ?_ ?_ ?_, hword (n := 2 * 2 ^ 149) ?_ ?_ ?_ ?_,
    hword (n := 2 ^ 149) ?_ ?_ ?_ ?_, hword (n := -13176795 * 2 ^ 128) ?_ ?_ ?_ ?_⟩
  all_goals decide +kernel

/-- Twice a number is not less than it. -/
theorem ftwo_fmul_low {q : F32} (hq : MagnitudeLe (2 ^ 20) q) (hlow : 1 / 16 ≤ operandValue q) :
    1 / 16 ≤ operandValue (fmul ftwo q) := by
  have htwo : isFinite ftwo = true ∧ operandValue ftwo = 2 := by decide +kernel
  have hround := fmul_rounds htwo.1 hq.1
  rw [htwo.2] at hround
  have hrep : Representable (1 / 16) := ⟨0x3D800000#32, by decide +kernel⟩
  have hle := (le_abs_self _).trans hq.2
  exact (hround.inRange hrep representable_two_pow_100 (by linarith) (by linarith)).low

/-! ### What RECOMPUTE reads (10_state.md R31; 47_cmd_lifecycle.md R175) -/

/-- An operation sees a value of a range that representable numbers bound in that range. -/
theorem InRange.of_within {lo hi v : F32} {l h : ℚ} (hlo : isFinite lo = true) (hhi : isFinite hi = true)
    (hl : Representable l) (hh : Representable h) (hle : l ≤ valueOf lo) (hle' : valueOf hi ≤ h)
    (hv : within lo hi v = true) : InRange l h v := by
  obtain ⟨hfin, hlow, hhigh⟩ := (within_iff hlo hhi).mp hv
  obtain ⟨hlow', hhigh'⟩ := valueOf_ftz_between hl hh (hle.trans hlow) (hhigh.trans hle')
  exact ⟨hfin, hlow', hhigh'⟩

/-- What an operation sees in a legal value of a parameter. -/
theorem inRange_of_legalParam {k : Fin 14} {v : F32} (h : legalParam k v = true) :
    InRange (rangeMin k) (rangeMax k) v :=
  have hbounds := operandValue_of_legalParam h
  ⟨(legalParam_iff.mp h).1, hbounds.1, hbounds.2⟩

theorem magnitudeLe_of_legalParam {k : Fin 14} {v : F32} (h : legalParam k v = true) : MagnitudeLe (2 ^ 20) v :=
  have hbounds := abs_range_le k
  (inRange_of_legalParam h).magnitudeLe (abs_le.mp hbounds.1).1 (abs_le.mp hbounds.2).2

/-- The signs and limits of the legal ranges that the coefficients rely on (10_state.md R31). -/
theorem range_signs : 0 ≤ rangeMin 6 ∧ 0 ≤ rangeMin 7 ∧ 0 ≤ rangeMin 11 ∧ 1 / 16 ≤ rangeMin 12 ∧
    -20 ≤ rangeMin 13 ∧ rangeMax 13 ≤ 0 := by decide +kernel

/-- A rate that PREPARE accepts (10_state.md R14). -/
theorem rate_inRange {fs : F32} (h : within refCfg.fsMin refCfg.fsMax fs = true) : InRange 1 (2 ^ 20) fs :=
  InRange.of_within (by decide) (by decide) representable_one
    ⟨0x49800000#32, by decide +kernel⟩ (by decide +kernel) (by decide +kernel) h

/-- A stored length, whatever the unclamped one is (43_decay_filter.md R125). -/
theorem nominalLength_inRange (mode : Mode) (fsk room : F32) (i : Fin 8) :
    InRange 0 (2 ^ 15) (nominalLength refCfg mode fsk room i) := by
  obtain ⟨hfin, hvalue⟩ := valueOf_i2f (n := 32767) (by omega)
  have hone : isFinite 0x3F800000#32 = true := by decide
  rw [nominalLength_refCfg]
  generalize rawLength refCfg mode fsk room i = raw
  cases hnan : isNaN raw with
  | true =>
    have hzero : operandValue fzero = 0 := operandValue_of_isZero (by decide)
    rw [fclamp, if_pos hnan]
    exact ⟨by decide, hzero.ge, by rw [hzero]; positivity⟩
  | false =>
    refine InRange.of_within hone hfin representable_zero
      ⟨0x47000000#32, by decide +kernel⟩ (by decide +kernel) ?_
      (within_fclamp hnan (by decide +kernel))
    rw [hvalue]
    norm_num

/-- A band time is at least the least legal one, 0.1 s (43_decay_filter.md R121). -/
theorem fmax_rt60Min {x : F32} (hfin : isFinite x = true) (hsub : isSubnormal x = false) :
    isFinite (fmax refCfg.rt60Min x) = true ∧ 1 / 16 ≤ operandValue (fmax refCfg.rt60Min x) := by
  have hmin : isFinite refCfg.rt60Min = true ∧ 1 / 16 ≤ valueOf refCfg.rt60Min ∧ isSubnormal refCfg.rt60Min = false := by
    decide +kernel
  obtain ⟨hmfin, hmvalue, hmsub⟩ := hmin
  unfold fmax
  split
  · exact ⟨hmfin, by rwa [operandValue_of_not_isSubnormal hmsub]⟩
  · next hgt =>
    rw [(comparisons_of_isFinite hfin hmfin).2.1, not_le] at hgt
    exact ⟨hfin, by rw [operandValue_of_not_isSubnormal hsub]; linarith⟩

section
variable {cur : Vector F32 14} (hcur : ∀ k : Fin 14, legalParam k cur[k] = true)
include hcur

/-- The three band times (43_decay_filter.md R121). -/
theorem bandTimes_bounds :
    (isFinite (bandTimes refCfg cur).1 = true ∧ 1 / 16 ≤ operandValue (bandTimes refCfg cur).1) ∧
      (isFinite (bandTimes refCfg cur).2.1 = true ∧ 1 / 16 ≤ operandValue (bandTimes refCfg cur).2.1) ∧
      (isFinite (bandTimes refCfg cur).2.2 = true ∧ 1 / 16 ≤ operandValue (bandTimes refCfg cur).2.2) := by
  obtain ⟨-, -, -, hone, -⟩ := constants_magnitudeLe
  have hmag (k : Fin 14) : MagnitudeLe (2 ^ 20) cur[k] := magnitudeLe_of_legalParam (hcur k)
  have hhigh := (hmag 0).fmul (hmag 5) (by norm_num)
  exact ⟨fmax_rt60Min ((hmag 0).fmul (hmag 3) (by norm_num)).1 (isSubnormal_fmul ..),
    fmax_rt60Min ((hmag 0).fmul (hmag 4) (by norm_num)).1 (isSubnormal_fmul ..),
    fmax_rt60Min (hhigh.fmul (hone.fsub (hmag 2) (by norm_num)) (by norm_num)).1 (isSubnormal_fmul ..)⟩

end

/-! ### The coefficients (R122 to R125) -/

section
variable {fs : F32} (hfs : InRange 1 (2 ^ 20) fs)
include hfs

/-- A decay gain is an exponential of a number that is not positive (R122). -/
theorem decayGain_isFinite {len rt : F32} (hlen : InRange 0 (2 ^ 15) len) (hrt : isFinite rt = true)
    (hrtlow : 1 / 16 ≤ operandValue rt) : isFinite (decayGain refCfg fs len rt) = true := by
  have hfslow : 1 / 16 ≤ operandValue fs := le_trans (by norm_num) hfs.low
  obtain ⟨hthree, -⟩ := constants_magnitudeLe
  have hlenmag : MagnitudeLe (2 ^ 15) len := hlen.magnitudeLe (by norm_num) le_rfl
  have hsec := hlenmag.fdiv hfslow hfs.fin (by norm_num)
  have hsecpos := fdiv_nonneg hlenmag hfslow hfs.fin (by norm_num) hlen.low
  have hprod := hthree.fmul hsec (by norm_num)
  have hprodneg := fmul_nonpos hthree hsec (by norm_num) (by decide +kernel) hsecpos
  have harg := hprod.fdiv hrtlow hrt (by norm_num)
  have hargneg := fdiv_nonpos hprod hrtlow hrt (by norm_num) hprodneg
  rw [operandValue_of_not_isSubnormal (isSubnormal_fdiv ..)] at hargneg
  exact (expScaled_of_nonpos fixLn10 harg.1 hargneg).1.fin

/-- A crossover coefficient is 1 less an exponential of a number that is not positive (R123). -/
theorem crossoverCoeff_isFinite {corner : F32} (hmag : MagnitudeLe (2 ^ 20) corner) (hpos : 0 ≤ operandValue corner) :
    isFinite (crossoverCoeff refCfg fs corner) = true := by
  have hfslow : 1 / 16 ≤ operandValue fs := le_trans (by norm_num) hfs.low
  obtain ⟨-, -, -, hone, htwoPi⟩ := constants_magnitudeLe
  have hratio := hmag.fdiv hfslow hfs.fin (by norm_num)
  have harg := htwoPi.fmul hratio (by norm_num)
  have hargneg := fmul_nonpos htwoPi hratio (by norm_num) (by decide +kernel)
    (fdiv_nonneg hmag hfslow hfs.fin (by norm_num) hpos)
  rw [operandValue_of_not_isSubnormal (isSubnormal_fmul ..)] at hargneg
  have hexp := (expScaled_of_nonpos (2 ^ fixBits) harg.1 hargneg).1.magnitudeLe (A := 128) (by norm_num) le_rfl
  exact (hone.fsub hexp (by norm_num)).1

/-- The peaking section's angle is less than half a turn (R124). -/
theorem peakingAngle_bounds {f0 : F32} (hmag : MagnitudeLe (2 ^ 20) f0) (hpos : 0 ≤ operandValue f0) :
    isFinite (fmin (fdiv f0 fs) refCfg.tMax) = true ∧ 0 ≤ valueOf (fmin (fdiv f0 fs) refCfg.tMax) ∧
      valueOf (fmin (fdiv f0 fs) refCfg.tMax) < 1 / 2 := by
  have hfslow : 1 / 16 ≤ operandValue fs := le_trans (by norm_num) hfs.low
  have hratio := (hmag.fdiv hfslow hfs.fin (by norm_num)).1
  have hnonneg := fdiv_nonneg hmag hfslow hfs.fin (by norm_num) hpos
  rw [operandValue_of_not_isSubnormal (isSubnormal_fdiv ..)] at hnonneg
  have hmax : isFinite refCfg.tMax = true ∧ 0 ≤ valueOf refCfg.tMax ∧ valueOf refCfg.tMax < 1 / 2 := by decide +kernel
  unfold fmin
  split
  · next hle =>
    rw [(comparisons_of_isFinite hratio hmax.1).2.1] at hle
    exact ⟨hratio, hnonneg, hle.trans_lt hmax.2.2⟩
  · exact hmax

end

/-- The peaking section's amplitude, `10^(gdb/40)` for a gain from -18 dB to 0 dB (R124). -/
theorem peakingAmp_inRange {gdb : F32} (h : InRange (-20) 0 gdb) :
    InRange (1 / 4) 128 (refCfg.num.pow10 (fdiv gdb forty)) := by
  have hforty : isFinite forty = true ∧ operandValue forty = 40 := by decide +kernel
  have hround := fdiv_rounds h.fin hforty.1 (by rw [hforty.2]; norm_num)
  rw [hforty.2] at hround
  have hhalf : Representable (-1 / 2) := ⟨0xBF000000#32, by decide +kernel⟩
  obtain ⟨hfin, hlow, hhigh⟩ := hround.between hhalf representable_zero (by linarith [h.low]) (by linarith [h.high])
  have hexp := (expScaled_of_nonpos fixLn10 hfin hhigh).1
  exact ⟨hexp.fin, refPow10_low hfin hhigh hlow, hexp.high⟩

/-- The divisor of the peaking coefficients is at least 1 (R124). -/
theorem fone_fadd_low {x : F32} {A : ℚ} (hx : MagnitudeLe A x) (hA : 1 + A ≤ 2 ^ 100) (hpos : 0 ≤ operandValue x) :
    isFinite (fadd fone x) = true ∧ 1 / 16 ≤ operandValue (fadd fone x) := by
  have hone : isFinite fone = true ∧ operandValue fone = 1 := ⟨by decide, operandValue_tapEntries.1⟩
  have hround := fadd_rounds hone.1 hx.1
  rw [hone.2] at hround
  have hle := (le_abs_self _).trans hx.2
  obtain ⟨hfin, hlow, -⟩ := hround.inRange representable_one representable_two_pow_100 (by linarith) (by linarith)
  exact ⟨hfin, le_trans (by norm_num) hlow⟩

/-- Every coefficient of the peaking section is a finite number (R124). -/
theorem peaking_isFinite {fs f0 q gdb : F32} (hfs : InRange 1 (2 ^ 20) fs) (hf0 : MagnitudeLe (2 ^ 20) f0)
    (hf0pos : 0 ≤ operandValue f0) (hq : MagnitudeLe (2 ^ 20) q) (hqlow : 1 / 16 ≤ operandValue q)
    (hgdb : InRange (-20) 0 gdb) :
    isFinite (peaking refCfg fs f0 q gdb).b0 = true ∧ isFinite (peaking refCfg fs f0 q gdb).b1 = true ∧
      isFinite (peaking refCfg fs f0 q gdb).b2 = true ∧ isFinite (peaking refCfg fs f0 q gdb).a1 = true ∧
      isFinite (peaking refCfg fs f0 q gdb).a2 = true := by
  obtain ⟨-, htwo', htwo, hone, -⟩ := constants_magnitudeLe
  obtain ⟨htfin, htlow, hthigh⟩ := peakingAngle_bounds hfs hf0 hf0pos
  have hsin := refSin2pi_nonneg htfin htlow hthigh
  have hsinmag := hsin.magnitudeLe (A := 128) (by norm_num) le_rfl
  have hcos := (refCos2pi_inRange htfin).magnitudeLe le_rfl le_rfl
  have hamp := peakingAmp_inRange hgdb
  have hampmag := hamp.magnitudeLe (A := 128) (by norm_num) le_rfl
  have hamplow : 1 / 16 ≤ operandValue (refCfg.num.pow10 (fdiv gdb forty)) := le_trans (by norm_num) hamp.low
  have hwidth := htwo.fmul hq (by norm_num)
  have hwidthlow := ftwo_fmul_low hq hqlow
  have halpha := hsinmag.fdiv hwidthlow hwidth.1 (by norm_num)
  have halphapos := fdiv_nonneg hsinmag hwidthlow hwidth.1 (by norm_num) hsin.low
  have hmul := halpha.fmul hampmag (by norm_num)
  have hdiv := halpha.fdiv hamplow hamp.fin (by norm_num)
  have hdivpos := fdiv_nonneg halpha hamplow hamp.fin (by norm_num) halphapos
  obtain ⟨hafin, halow⟩ := fone_fadd_low hdiv (by norm_num) hdivpos
  have hb1 := ((htwo'.fmul hcos (by norm_num)).fdiv halow hafin (by norm_num)).1
  exact ⟨((hone.fadd hmul (by norm_num)).fdiv halow hafin (by norm_num)).1, hb1,
    ((hone.fsub hmul (by norm_num)).fdiv halow hafin (by norm_num)).1, hb1,
    ((hone.fsub hdiv (by norm_num)).fdiv halow hafin (by norm_num)).1⟩

/-- RECOMPUTE at a legal rate and legal parameters gives finite coefficients (40_numerics.md R89). -/
theorem coeffsOf_finite (mode : Mode) {fs : F32} (fsk : F32) {cur : Vector F32 14}
    (hfs : within refCfg.fsMin refCfg.fsMax fs = true) (hcur : ∀ k : Fin 14, legalParam k cur[k] = true) :
    FilterCoeffsIn isFinite (coeffsOf refCfg mode fs fsk cur) := by
  have hfs := rate_inRange hfs
  have hmag (k : Fin 14) : MagnitudeLe (2 ^ 20) cur[k] := magnitudeLe_of_legalParam (hcur k)
  have hrange (k : Fin 14) : InRange (rangeMin k) (rangeMax k) cur[k] := inRange_of_legalParam (hcur k)
  obtain ⟨hlo, hhi, hf0, hq, hglow, hghigh⟩ := range_signs
  obtain ⟨⟨hlfin, hl⟩, ⟨hmfin, hm⟩, hhfin, hh⟩ := bandTimes_bounds hcur
  obtain ⟨hb0, hb1, hb2, ha1, ha2⟩ := peaking_isFinite hfs (hmag 11) (hf0.trans (hrange 11).low) (hmag 12)
    (hq.trans (hrange 12).low) ⟨(hrange 13).fin, hglow.trans (hrange 13).low, (hrange 13).high.trans hghigh⟩
  refine ⟨fun i => ?_, crossoverCoeff_isFinite hfs (hmag 6) (hlo.trans (hrange 6).low),
    crossoverCoeff_isFinite hfs (hmag 7) (hhi.trans (hrange 7).low), hb0, hb1, hb2, ha1, ha2⟩
  have hlen := nominalLength_inRange mode fsk cur[1] i
  rw [← coeffsOf_len refCfg mode fs fsk cur i] at hlen
  obtain ⟨hgl, hgm, hgh⟩ := coeffsOf_gains refCfg mode fs fsk cur i
  rw [hgl, hgm, hgh]
  exact ⟨decayGain_isFinite hfs hlen hlfin hl, decayGain_isFinite hfs hlen hmfin hm,
    decayGain_isFinite hfs hlen hhfin hh⟩

/-! ### Silence (44_fdn_core.md R144 (a)) -/

/-- The coefficients that multiply a signal: those of the decay filters and the diffusion. -/
theorem coeffsFinite_iff {s : State} :
    CoeffsFinite s ↔ FilterCoeffsIn isFinite s.coeffs ∧ isFinite s.smoothers[10].cur = true := by
  rw [CoeffsFinite]
  simp only [List.all_cons, List.all_nil, Bool.and_eq_true, and_true]
  refine ⟨fun ⟨hgains, hlo, hhi, hb0, hb1, hb2, ha1, ha2, hg⟩ => ⟨⟨hgains, hlo, hhi, hb0, hb1, hb2, ha1, ha2⟩, hg⟩,
    fun ⟨h, hg⟩ => ⟨h.gains, h.clo, h.chi, h.b0, h.b1, h.b2, h.a1, h.a2, hg⟩⟩

/-- The coefficients that PROCESS uses are finite numbers (40_numerics.md R89). -/
theorem smoothPhase_controlLatch_coeffsFinite {s : State} (htargets : TargetsLegal s) (hsetup : SetupDerived s)
    (hsm : SmoothersWellFormed s) (hramps : RampsLegal s) (hcoeffs : CoeffsCurrent s) :
    CoeffsFinite (smoothPhase refCfg (controlLatch refCfg s)) := by
  have hlegal := smoothPhase_controlLatch_legal htargets hsm hramps
  have hcurrent := smoothPhase_coeffsCurrent (controlLatch_coeffsCurrent hcoeffs)
  refine coeffsFinite_iff.mpr ⟨?_, (legalParam_iff.mp (hlegal 10)).1⟩
  rw [hcurrent, smoothPhase_setup, controlLatch_setup]
  refine coeffsOf_finite _ _ hsetup.1 fun k => ?_
  rw [currents, Fin.getElem_fin, Vector.getElem_map]
  exact hlegal k

/-- Settles O31: zeros stay zeros under finite coefficients, and legal ramps keep the coefficients finite. -/
theorem silentProcessStaysSilent : Obligations.SilentProcessStaysSilent := by
  intro left right s hprep
  refine ⟨_, exec_process_prepared left right hprep, fun hleft hright hlines hfilters hfinite => ?_,
    smoothPhase_controlLatch_coeffsFinite⟩
  obtain ⟨hc, hg⟩ := coeffsFinite_iff.mp hfinite
  have hsilent := silenceKind_zero.smoothPhase_controlLatch (silent_isZero_iff.mpr ⟨hlines, hfilters⟩)
  obtain ⟨hnext, hrsp⟩ := silenceKind_zero.samplePhase hsilent hc hg (isZero_sanitize hleft) (isZero_sanitize hright)
  obtain ⟨hlines', hfilters'⟩ := silent_isZero_iff.mp hnext
  exact ⟨hrsp, hlines', hfilters'⟩

end Sys2Proof.Machine

/-! The modulation state (spec/45_lfo_modulation.md): what a step does to it, the phases, which stay in `[0, 1)` (R151,
R152, R156), and the shift register, which never becomes zero (R153, R156). -/

namespace Sys2Proof.Machine

set_option Elab.async false

/-! ### What a step does to the modulation state (R151 to R154; 47_cmd_lifecycle.md R174) -/

/-- The rate of the LFOs in a PROCESS: the current value of parameter 8 after steps P1 to P3 (49_cmd_process.md R190). -/
def processRate (s : State) : F32 := (smoothPhase refCfg (controlLatch refCfg s)).smoothers[8].cur

section
variable {s t : State} {P : Modulation → Prop}

/-- CONTROLLATCH leaves the modulation state, or clears it at a mode switch (49_cmd_process.md R191). -/
theorem latchedModulation_of (hclear : P (clearModulation refCfg)) (h : P s.modulation) : P (latchedModulation s) := by
  unfold latchedModulation
  split
  · exact h
  · exact hclear

theorem setpWith_modulation (c : Config) (idx : Idx) (v : Operand) (s : State) :
    (setpWith c idx v s).modulation = s.modulation := by
  by_cases hi : idx.toNat < 14
  · rw [setpWith_of_lt c hi, setParam]
    dsimp only
    split <;> rfl
  · rw [setpWith_of_not_lt c hi]
    rfl

/-- A refused PREPARE leaves the modulation state, an accepted one clears it (47_cmd_lifecycle.md R171). -/
theorem prepareWith_modulation (c : Config) (rate block : Operand) (s : State) :
    (prepareWith c rate block s).modulation =
      if prepareRefused rate block then s.modulation else clearModulation c := by
  unfold prepareWith
  split <;> rfl

/-- PROCESS advances the latched modulation state of a prepared engine (49_cmd_process.md R190). -/
theorem processWith_modulation (left right : Operand) (s : State) :
    (processWith refCfg left right s).modulation =
      if s.setup.prepared then lfoAdvance refCfg (processRate s) s.setup.fs (latchedModulation s) else s.modulation := by
  obtain ⟨-, -, -, -, -, hsmooth, -⟩ := smoothPhase_spec refCfg (controlLatch refCfg s)
  unfold processWith
  split
  · rw [← controlLatch_modulation, ← hsmooth, ← controlLatch_setup refCfg s,
      ← smoothPhase_setup refCfg (controlLatch refCfg s)]
    rfl
  · rfl

/-- PROCESS advances the modulation state, or clears and advances it; any other command leaves it or clears it. -/
theorem commandWith_modulation_keeps (hclear : P (clearModulation refCfg))
    (hadvance : ∀ m, P m → P (lfoAdvance refCfg (processRate s) s.setup.fs m)) (h : P s.modulation) (i : Instr) :
    P (commandWith refCfg i s).modulation := by
  cases i with
  | nop | rdstat | setmode | setfrz | setcpx => exact h
  | prepare rate block =>
    rw [commandWith, prepareWith_modulation]
    split
    · exact h
    · exact hclear
  | reset => exact hclear
  | process left right =>
    rw [commandWith, processWith_modulation]
    split
    · exact hadvance _ (latchedModulation_of hclear h)
    · exact h
  | setp idx v => rwa [commandWith, setpWith_modulation]

/-- A property of the modulation state that the clear has and the advance keeps is kept by every step. -/
theorem step_modulation_keeps (hclear : P (clearModulation refCfg))
    (hadvance : ∀ m, P m → P (lfoAdvance refCfg (processRate (acceptInput s)) s.setup.fs m)) (h : P s.modulation)
    (hstep : step s = .next t) : P t.modulation :=
  step_gives (P := fun t => P t.modulation) hstep
    (commandWith_modulation_keeps (s := acceptInput s) hclear hadvance h) h hclear

end

/-! ### The phases (R151, R152, R156) -/

/-- A phase in `[0, 1)`, in values. -/
theorem unitPhase_iff {p : F32} : unitPhase p = true ↔ isFinite p = true ∧ 0 ≤ valueOf p ∧ valueOf p < 1 := by
  have hzero : isFinite fzero = true ∧ valueOf fzero = 0 := ⟨by decide, valueOf_eq_zero_iff.mpr (by decide)⟩
  have hone : isFinite fone = true ∧ valueOf fone = 1 := by decide +kernel
  have hfinite : unitPhase p = true → isFinite p = true := by
    intro h
    rw [unitPhase, Bool.and_eq_true] at h
    refine ((within_iff (lo := fzero) (hi := fone) hzero.1 hone.1).mp ?_).1
    rw [within, Bool.and_eq_true]
    refine ⟨h.1, ?_⟩
    have hlt := h.2
    simp only [flt, fle, Bool.and_eq_true, decide_eq_true_eq] at hlt ⊢
    exact ⟨hlt.1, hlt.2.le⟩
  have hvalues (hfin : isFinite p = true) : unitPhase p = true ↔ 0 ≤ valueOf p ∧ valueOf p < 1 := by
    rw [unitPhase, Bool.and_eq_true, (comparisons_of_isFinite hzero.1 hfin).2.1,
      (comparisons_of_isFinite hfin hone.1).1, hzero.2, hone.2]
  exact ⟨fun h => ⟨hfinite h, (hvalues (hfinite h)).mp h⟩, fun ⟨hfin, h⟩ => (hvalues hfin).mpr h⟩

section
variable {rate ratio fs ph : F32}

/-- One sample moves a phase by at most half a turn (R151). -/
theorem phaseIncrement_inRange (hrate : InRange 0 16 rate) (hratio : InRange 0 8 ratio) (hfs : InRange 256 (2 ^ 20) fs) :
    InRange 0 (1 / 2) (fdiv (fmul rate ratio) fs) := by
  have h128 : Representable 128 := by simpa using representable_int (n := 128) (by decide)
  have hhalf : Representable (1 / 2) := ⟨fhalf, by decide +kernel⟩
  have hpos : 0 < operandValue fs := lt_of_lt_of_le (by norm_num) hfs.low
  have hrate0 := hrate.low
  have hratio0 := hratio.low
  have hprod : InRange 0 128 (fmul rate ratio) := by
    refine (fmul_rounds hrate.fin hratio.fin).inRange representable_zero h128 (by positivity) ?_
    calc operandValue rate * operandValue ratio ≤ 16 * 8 := mul_le_mul hrate.high hratio.high hratio0 (by norm_num)
      _ = 128 := by norm_num
  refine (fdiv_rounds hprod.fin hfs.fin hpos.ne').inRange representable_zero hhalf (div_nonneg hprod.low hpos.le) ?_
  rw [div_le_iff₀ hpos]
  linarith [hprod.high, hfs.low]

/-- A phase that is moved by at most half a turn, less the turn it completes, is in the unit (R151). -/
theorem phaseNext_unitPhase (hinc : InRange 0 (1 / 2) (fdiv (fmul rate ratio) fs)) (hph : unitPhase ph = true) :
    unitPhase (phaseNext rate ratio fs ph) = true := by
  have hone : isFinite fone = true ∧ valueOf fone = 1 ∧ operandValue fone = 1 := by decide +kernel
  have hhalf : Representable (1 / 2) := ⟨fhalf, by decide +kernel⟩
  have hmax : Representable (3 / 2) := ⟨0x3FC00000#32, by decide +kernel⟩
  obtain ⟨hfin, hlow, hhigh⟩ := unitPhase_iff.mp hph
  obtain ⟨hlow', hhigh'⟩ := valueOf_ftz_between representable_zero representable_one hlow hhigh.le
  have hround := fadd_rounds hfin hinc.fin
  have hsum : InRange 0 (3 / 2) (fadd ph (fdiv (fmul rate ratio) fs)) :=
    hround.inRange representable_zero hmax (add_nonneg hlow' hinc.low)
      ((add_le_add hhigh' hinc.high).trans (by norm_num))
  have hvalue := hround.operandValue
  unfold phaseNext
  dsimp only
  generalize fadd ph (fdiv (fmul rate ratio) fs) = p at hsum hvalue
  obtain ⟨-, hle, -⟩ := comparisons_of_isFinite hone.1 hsum.fin
  rw [hone.2.1] at hle
  split
  · next hturn =>
    have hdiff := fsub_rounds hsum.fin hone.1
    rw [hone.2.2, hvalue] at hdiff
    obtain ⟨hfin', hlow', hhigh'⟩ := hdiff.between representable_zero hhalf (by linarith [hle.mp hturn])
      (by linarith [hvalue ▸ hsum.high])
    exact unitPhase_iff.mpr ⟨hfin', hlow', hhigh'.trans_lt (by norm_num)⟩
  · next hturn =>
    exact unitPhase_iff.mpr ⟨hsum.fin, hvalue ▸ hsum.low, not_le.mp (mt hle.mpr hturn)⟩

end

/-- Every phase of a modulation state is in `[0, 1)` (R156). -/
def Modulation.PhasesInUnit (m : Modulation) : Prop :=
  (∀ j : Fin 10, unitPhase m.pha[j] = true) ∧ ∀ i : Fin 8, unitPhase m.phb[i] = true

/-- The phase ratios of the reference configuration, as operands (10_state.md R33). -/
theorem phaseRatios_bounds :
    (∀ j : Fin 10, isFinite refCfg.lfoRatio[j] = true ∧ 0 ≤ operandValue refCfg.lfoRatio[j] ∧
      operandValue refCfg.lfoRatio[j] ≤ 8) ∧
    ∀ i : Fin 8, isFinite refCfg.lfo2Ratio[i] = true ∧ 0 ≤ operandValue refCfg.lfo2Ratio[i] ∧
      operandValue refCfg.lfo2Ratio[i] ≤ 8 := by decide +kernel

/-- The advance keeps the phases in the unit, at any rate of at most 16 Hz and any sampling rate of at least 256 Hz. -/
theorem lfoAdvance_phasesInUnit {rate fs : F32} (hrate : InRange 0 16 rate) (hfs : InRange 256 (2 ^ 20) fs)
    {m : Modulation} (h : m.PhasesInUnit) : (lfoAdvance refCfg rate fs m).PhasesInUnit := by
  obtain ⟨hpha, hphb⟩ := h
  obtain ⟨hratio, hratio2⟩ := phaseRatios_bounds
  refine ⟨fun j => ?_, fun i => ?_⟩
  · obtain ⟨hfin, hlow, hhigh⟩ := hratio j
    rw [lfoAdvance, Fin.getElem_fin, Vector.getElem_ofFn]
    exact phaseNext_unitPhase (phaseIncrement_inRange hrate ⟨hfin, hlow, hhigh⟩ hfs) (hpha j)
  · obtain ⟨hfin, hlow, hhigh⟩ := hratio2 i
    rw [lfoAdvance, Fin.getElem_fin, Vector.getElem_ofFn]
    exact phaseNext_unitPhase (phaseIncrement_inRange hrate ⟨hfin, hlow, hhigh⟩ hfs) (hphb i)

/-- The rate of the LFOs in a PROCESS is a legal value of parameter 8 (46_param_smoothing.md R166 (c)). -/
theorem processRate_inRange {s : State} (htargets : TargetsLegal s) (hsm : SmoothersWellFormed s)
    (hramps : RampsLegal s) : InRange 0 16 (processRate s) := by
  have hends : 0 ≤ rangeMin 8 ∧ rangeMax 8 ≤ 16 := by decide +kernel
  obtain ⟨hfin, hlow, hhigh⟩ := inRange_of_legalParam (smoothPhase_controlLatch_legal htargets hsm hramps 8)
  exact ⟨hfin, hends.1.trans hlow, hhigh.trans hends.2⟩

/-- A sampling rate that PREPARE accepts is at least 8000 Hz (10_state.md R14). -/
theorem rate_inRange_256 {fs : F32} (h : within refCfg.fsMin refCfg.fsMax fs = true) : InRange 256 (2 ^ 20) fs :=
  InRange.of_within (by decide) (by decide) ⟨0x43800000#32, by decide +kernel⟩ ⟨0x49800000#32, by decide +kernel⟩
    (by decide +kernel) (by decide +kernel) h

/-- Settles O42: the clear gives phases in the unit, and the advance moves each by at most half a turn and takes a
completed turn away. -/
theorem stepKeepsPhasesInUnit : Obligations.StepKeepsPhasesInUnit := by
  intro s t htargets hsetup hsm hramps hphases hstep
  exact step_modulation_keeps (P := Modulation.PhasesInUnit) reset_phasesInUnit
    (fun _ => lfoAdvance_phasesInUnit (processRate_inRange (s := acceptInput s) htargets hsm hramps)
      (rate_inRange_256 hsetup.1)) hphases hstep

/-! ### The shift register (R153, R156) -/

/-- The bit that leaves the register enters its top bit, where the tap mask has a 1 and the shifted word a 0. -/
theorem lfsrNext_msb (x : BitVec 32) : (lfsrNext refCfg x).getLsbD 31 = x.getLsbD 0 := by
  unfold lfsrNext
  split
  · next hbit =>
    rw [hbit, BitVec.getLsbD_xor, BitVec.getLsbD_ushiftRight, BitVec.getLsbD_of_ge x _ (by decide)]
    decide
  · next hbit =>
    rw [Bool.not_eq_true] at hbit
    rw [hbit, BitVec.getLsbD_ushiftRight, BitVec.getLsbD_of_ge x _ (by decide)]

/-- The bit that left tells whether the taps were added, so the step can be undone. -/
theorem lfsrNext_injective : Function.Injective (lfsrNext refCfg) := by
  intro x y h
  have hbit : x.getLsbD 0 = y.getLsbD 0 := by rw [← lfsrNext_msb, h, lfsrNext_msb]
  have hshift : x >>> 1 = y >>> 1 := by
    unfold lfsrNext at h
    rw [hbit] at h
    split at h
    · exact (BitVec.xor_left_inj _).mp h
    · exact h
  refine BitVec.eq_of_getLsbD_eq fun i _ => ?_
  cases i with
  | zero => exact hbit
  | succ i => simpa [BitVec.getLsbD_ushiftRight, Nat.add_comm 1] using congrArg (·.getLsbD i) hshift

/-- The one register whose next is zero is zero itself. -/
theorem lfsrNext_ne_zero {x : BitVec 32} (h : x ≠ 0) : lfsrNext refCfg x ≠ 0 := by
  have hzero : lfsrNext refCfg 0 = 0 := by decide
  exact fun hnext => h (lfsrNext_injective (hnext.trans hzero.symm))

theorem lfsrAfter_ne_zero (n : Nat) {x : BitVec 32} (h : x ≠ 0) : lfsrAfter refCfg n x ≠ 0 := by
  induction n generalizing x with
  | zero => exact h
  | succ n ih => exact ih (lfsrNext_ne_zero h)

/-- Settles O43: an injective step of finitely many words is a bijection, and no number of steps leads to zero. -/
theorem lfsrIsInvertibleAndNeverZero : Obligations.LfsrIsInvertibleAndNeverZero := by
  refine ⟨fun x => rfl, Finite.injective_iff_bijective.mp lfsrNext_injective, fun s t hs hstep => ?_⟩
  exact step_modulation_keeps (P := fun m => m.lfsr ≠ 0) reset_lfsrNonzero (fun _ => lfsrAfter_ne_zero 8) hs hstep

end Sys2Proof.Machine

/-! The modulators (spec/45_lfo_modulation.md R153, R154): the dither values are exact, and the weights of complex mode
keep a modulator in `[-1, 1]`. -/

namespace Sys2Proof.Machine

set_option Elab.async false

/-! ### The dither values (R153) -/

/-- A fraction of at most 24 bits over `2^15` is a number that no operation flushes. -/
theorem representable_fraction {n : Int} (h : n.natAbs ≤ 2 ^ 24) : Representable (n / 2 ^ 15) := by
  obtain rfl | hne := eq_or_ne n 0
  · simpa using representable_zero
  have hpos : 0 < n.natAbs := Int.natAbs_pos.mpr hne
  have hbound : n.natAbs * 2 ^ 134 ≤ 2 ^ 24 * 2 ^ 134 := Nat.mul_le_mul_right _ h
  have hleast : 1 * 2 ^ 134 ≤ n.natAbs * 2 ^ 134 := Nat.mul_le_mul_right _ hpos
  obtain ⟨hfin, hmag⟩ := rnd_exact (decide (n < 0)) rfl hpos h (hbound.trans_lt (by norm_num))
  have hnormal : 2 ^ 23 ≤ n.natAbs * 2 ^ 134 := le_trans (by norm_num) hleast
  refine ⟨_, hfin, isSubnormal_of_le_scaledMag (hnormal.trans_eq hmag.symm), ?_⟩
  rw [valueOf, scaled_rnd, hmag, signedMag_mul, signedMag_natAbs]
  push_cast
  norm_num
  ring

/-- The upper half of the register, read as a signed number (R153). -/
def signedHalf (x : BitVec 32) : Int := (x.extractLsb' 16 16).toInt

theorem signedHalf_bounds (x : BitVec 32) : -32768 ≤ signedHalf x ∧ signedHalf x < 32768 :=
  ⟨BitVec.le_toInt _, BitVec.toInt_lt⟩

/-- The division by 32768 is exact (R153). -/
theorem ditherValue_exact (x : BitVec 32) :
    isFinite (ditherValue x) = true ∧ valueOf (ditherValue x) = (signedHalf x : ℚ) / 32768 := by
  have hbits : (signedHalf x).natAbs ≤ 2 ^ 24 := by
    have := signedHalf_bounds x
    omega
  have hdivisor : isFinite f32768 = true ∧ operandValue f32768 = 32768 := by decide +kernel
  obtain ⟨hfin, hscaled⟩ := i2f_exact hbits
  have hround := fdiv_rounds hfin hdivisor.1 (by rw [hdivisor.2]; norm_num)
  rw [operandValue_of_not_isSubnormal (isSubnormal_i2f _), valueOf, hscaled, cast_units_div, hdivisor.2] at hround
  have hrep := representable_fraction hbits
  norm_num at hrep
  exact hround.exact hrep

/-! ### The modulators of complex mode (R154) -/

/-- A value in `[-1, 1]`, as an operand. -/
theorem inRange_one_of_within {v : F32} (h : within 0xBF800000#32 0x3F800000#32 v = true) : InRange (-1) 1 v :=
  InRange.of_within (by decide) (by decide) representable_one.neg representable_one (by decide +kernel)
    (by decide +kernel) h

/-- A value scaled by a positive weight. -/
theorem fmul_weight_inRange {w v : F32} {q : ℚ} (hw : isFinite w = true) (hq : operandValue w = q) (hpos : 0 ≤ q)
    (hv : InRange (-1) 1 v) : InRange (-q) q (fmul w v) := by
  have hrep := hq ▸ representable_operandValue hw
  have hround := fmul_rounds hw hv.fin
  rw [hq] at hround
  exact hround.inRange hrep.neg hrep (by nlinarith [hv.low]) (by nlinarith [hv.high])

/-- A sum of values bounded by magnitudes whose sum is representable. -/
theorem fadd_inRange {a b : F32} {A B : ℚ} (ha : InRange (-A) A a) (hb : InRange (-B) B b) (h : Representable (A + B)) :
    InRange (-(A + B)) (A + B) (fadd a b) :=
  (fadd_rounds ha.fin hb.fin).inRange h.neg h (by linarith [ha.low, hb.low]) (by linarith [ha.high, hb.high])

/-- The weights of complex mode (10_state.md R33). -/
theorem complexWeights :
    (isFinite refCfg.cpxWa = true ∧ operandValue refCfg.cpxWa = 5 / 8) ∧
      (isFinite refCfg.cpxWb = true ∧ operandValue refCfg.cpxWb = 5 / 16) ∧
      (isFinite refCfg.cpxWn = true ∧ operandValue refCfg.cpxWn = 1 / 16) := by decide +kernel

/-- The weights of complex mode add up to 1, and every partial sum of them is representable (R154). -/
theorem complexMod_inRange {a b n : F32} (ha : InRange (-1) 1 a) (hb : InRange (-1) 1 b) (hn : InRange (-1) 1 n) :
    InRange (-1) 1 (complexMod refCfg a b n) := by
  obtain ⟨⟨hfa, hwa⟩, ⟨hfb, hwb⟩, ⟨hfn, hwn⟩⟩ := complexWeights
  have htwo : Representable (5 / 8 + 5 / 16) := ⟨0x3F700000#32, by decide +kernel⟩
  have hthree : Representable (5 / 8 + 5 / 16 + 1 / 16) := by
    convert representable_one using 1
    norm_num
  have hsum := fadd_inRange
    (fadd_inRange (fmul_weight_inRange hfa hwa (by norm_num) ha) (fmul_weight_inRange hfb hwb (by norm_num) hb) htwo)
    (fmul_weight_inRange hfn hwn (by norm_num) hn) hthree
  rw [complexMod]
  convert hsum using 1 <;> norm_num

/-- Settles O52: dither values are fractions of 16 bits, and the sum of complex mode is a weighted mean. -/
theorem modulatorsStayInUnit : Obligations.ModulatorsStayInUnit := by
  refine ⟨fun x => ?_, fun a b n ha hb hn => ?_⟩
  · obtain ⟨hfin, hvalue⟩ := ditherValue_exact x
    obtain ⟨hlow, hhigh⟩ := signedHalf_bounds x
    have hlow' : (-32768 : ℚ) ≤ signedHalf x := by exact_mod_cast hlow
    have hhigh' : (signedHalf x : ℚ) < 32768 := by exact_mod_cast hhigh
    refine ⟨hfin, hvalue, ?_, ?_⟩ <;> rw [hvalue] <;> linarith
  · have hrange := complexMod_inRange (inRange_one_of_within ha) (inRange_one_of_within hb) (inRange_one_of_within hn)
    have hvalue : operandValue (complexMod refCfg a b n) = valueOf (complexMod refCfg a b n) :=
      operandValue_of_not_isSubnormal (isSubnormal_fadd _ _)
    have hends : valueOf 0xBF800000#32 = -1 ∧ valueOf 0x3F800000#32 = 1 := by decide +kernel
    rw [within_iff (by decide) (by decide), hends.1, hends.2, ← hvalue]
    exact ⟨hrange.fin, hrange.low, hrange.high⟩

end Sys2Proof.Machine

/-! One sample of PROCESS (spec/49_cmd_process.md R190): the state that steps P1 to P3 leave, and what steps P4 to P7 make
of it: the modulators, the diffuser chains and the network. -/

namespace Sys2Proof.Machine

set_option Elab.async false

/-! ### The state after steps P1 to P3 (R190, R191) -/

/-- `S_DCL` after step P3: RECOMPUTE sets it when an owner moved and a nominal length is clamped
(43_decay_filter.md R125). -/
theorem smoothPhase_dcl (c : Config) (s : State) :
    (smoothPhase c s).sticky.dcl = true ↔ s.sticky.dcl = true ∨
      (smoothChanged s.setup.ramp s.targets.pt s.smoothers = true ∧
        lengthClamped c s.active.mode s.setup.fsk (smoothPhase c s).smoothers[1].cur = true) := by
  unfold smoothPhase
  dsimp only
  split
  · next hmoved => simp [hmoved, currents]
  · next hidle => simp [hidle]

/-- No step but P6 writes `S_FCL` (60_exceptions.md R201). -/
theorem smoothPhase_controlLatch_fcl (c : Config) (s : State) :
    (smoothPhase c (controlLatch c s)).sticky.fcl = s.sticky.fcl := by
  obtain ⟨_, hlatch⟩ := controlLatch_sticky c s
  obtain ⟨_, hsmooth⟩ := smoothPhase_sticky c (controlLatch c s)
  rw [hsmooth, hlatch, flagDcl_fcl, flagDcl_fcl]

/-- `u` is what steps P1 to P3 of a PROCESS of `s` leave for its sample, in the words of the statements. -/
structure SampleReady (s u : State) : Prop where
  setup : u.setup = s.setup
  active : u.active = { mode := s.targets.modeT, frz := s.targets.frzT, cpx := s.targets.cpxT }
  modulation : u.modulation = latchedModulation s
  dl : ∀ i : Fin 8, u.dl[i] = latchedDl s i
  ap : ∀ ch : Fin 2, u.ap[ch] = Vector.ofFn (latchedAp s ch)
  filters : ∀ i : Fin 8, u.filters[i] = latchedFilter s i
  fcl : u.sticky.fcl = s.sticky.fcl
  dcl : u.sticky.dcl = true ↔ s.sticky.dcl = true ∨
    (s.targets.modeT ≠ s.active.mode ∧ lengthClamped refCfg s.targets.modeT s.setup.fsk s.targets.pt[1] = true) ∨
    ((∃ k ∈ coefOwners, rewritesCurrent s k) ∧
      lengthClamped refCfg s.targets.modeT s.setup.fsk u.smoothers[1].cur = true)

/-- Each group of registers is what CONTROLLATCH leaves, and the latched smoothers decide on `S_DCL` (R190, R191). -/
theorem smoothPhase_controlLatch_sampleReady (s : State) :
    SampleReady s (smoothPhase refCfg (controlLatch refCfg s)) := by
  obtain ⟨-, hsetup, hactive, -, hfilters, hmod, hdl, hap, -⟩ := smoothPhase_spec refCfg (controlLatch refCfg s)
  obtain ⟨-, -, -, hlatched⟩ := controlLatch_spec refCfg s
  constructor
  case setup => rw [hsetup, controlLatch_setup]
  case active => rw [hactive, hlatched]
  case modulation => rw [hmod, controlLatch_modulation]
  case dl => exact fun i => by rw [hdl, controlLatch_dl]
  case ap => exact fun ch => by rw [hap, controlLatch_ap]
  case filters => exact fun i => by rw [hfilters, controlLatch_filter]
  case fcl => exact smoothPhase_controlLatch_fcl refCfg s
  case dcl =>
    rw [smoothPhase_dcl, controlLatch_dcl, controlLatch_setup, controlLatch_targets, smoothChanged_iff_rewritesCurrent,
      hlatched, or_assoc]

/-- The lines the sample reads and writes are canonical where those of `s` are (20_memory.md R43; log entry 8). -/
theorem latchedDl_canonical {s : State} (h : MemoriesCanonical s) (i : Fin 8) : (latchedDl s i).Canonical 32768 where
  head_lt := head_lt_capDl _
  buf_wf := by
    unfold latchedDl
    split
    · exact h.1 i
    · rfl

/-! ### The modulators (45_lfo_modulation.md R151 to R154) -/

/-- The dither value of a slot, written out (R153). -/
theorem ditherOut_refCfg (x : BitVec 32) (i : Fin 8) :
    (ditherOut refCfg x)[i] =
      fdiv (i2f (((lfsrNext refCfg)^[i.val + 1] x).extractLsb' 16 16).toInt) 0x47000000#32 := by
  rw [ditherOut, Fin.getElem_fin, Vector.getElem_ofFn, ditherValue, lfsrAfter_eq_iterate]
  rfl

/-- A primary output is the sine of its phase (R151). -/
theorem lfoOut_lfoA (cpx : Bool) (m : Modulation) (j : Fin 10) :
    (lfoOut refCfg cpx m).lfoA[j] = refNum.sin2pi m.pha[j] :=
  Vector.getElem_map ..

/-- A modulator is the weighted sum of the three parts in complex mode, and else the primary output (R154). -/
theorem lfoOut_mods (cpx : Bool) (m : Modulation) (i : Fin 8) :
    (lfoOut refCfg cpx m).mods[i] =
      if cpx then
        fadd (fadd (fmul 0x3F200000#32 (refNum.sin2pi m.pha[i.castLE (by decide : 8 ≤ 10)]))
            (fmul 0x3EA00000#32 (refNum.sin2pi m.phb[i])))
          (fmul 0x3D800000#32 (ditherOut refCfg m.lfsr)[i])
      else refNum.sin2pi m.pha[i.castLE (by decide : 8 ≤ 10)] := by
  simp only [lfoOut, complexMod, primaryOut, secondaryOut, Fin.getElem_fin, Vector.getElem_ofFn, Vector.getElem_map,
    Fin.val_castLE]
  rfl

/-! ### The network (44_fdn_core.md R135 to R141) -/

/-- The clamped request of a slot (R136). -/
theorem fdnDelay_refCfg (len depthS md : F32) :
    fdnDelay refCfg len depthS md = fclamp (fadd len (fmul depthS md)) 0x3F800000#32 (i2f 32767) := by
  rw [fdnDelay, maxDelayDl_refCfg, fdnRequest, refCfg]

/-- The feedback clamp (R140). -/
theorem feedbackClamp_refCfg (v : F32) : feedbackClamp refCfg v = fclamp v 0xC0000000#32 0x40000000#32 := by
  have hneg : fneg refCfg.fbLimit = 0xC0000000#32 := by decide
  rw [feedbackClamp, hneg, refCfg]

/-- The word a sample writes at the head of a network line (R140). -/
theorem ramRead_fdnWrite_head {l : Line 15} (h : l.Canonical 32768) (v : F32) :
    ramRead (fdnWrite refCfg l v) l.head.toNat = fclamp v 0xC0000000#32 0x40000000#32 := by
  rw [← feedbackClamp_refCfg]
  exact ramRead_lineWrite_head h _

/-- The values of step F2: those of the decay filters, or the reads themselves in freeze (R137). -/
def fdnPassed (frz : Bool) (k : Coeffs) (filters : Vector SlotFilter 8) (r : Vector F32 8) : Vector F32 8 :=
  if frz then r else (fdnDecays k filters r).map Decayed.out

section
variable (c : Config) (frz : Bool) (k : Coeffs) (filters : Vector SlotFilter 8) (dl : Vector (Line 15) 8)
  (r : Vector F32 8) (uL uR depthS : F32) (mods : Vector F32 8) (i : Fin 8)

/-- A slot's sum: the injection is dropped in freeze (R139). -/
theorem fdnSums_getElem (f : Vector F32 8) :
    (fdnSums c frz f uL uR)[i] =
      if frz then (hadamard c f)[i]
      else fadd (hadamard c f)[i] (fadd (fmul c.injL[i] uL) (fmul c.injR[i] uR)) :=
  Vector.getElem_ofFn ..

/-- Step F2 of a slot: bypassed in freeze, and else DECAY (R137; 43_decay_filter.md R126, R128). -/
theorem fdnStep_filter_getElem (h : r = fdnReads c k.len depthS mods dl) :
    if frz then (fdnPassed frz k filters r)[i] = r[i] ∧
        (fdnStep c frz k filters dl uL uR depthS mods).filters[i] = filters[i]
      else (fdnPassed frz k filters r)[i] = (decay k i filters[i] r[i]).out ∧
        (fdnStep c frz k filters dl uL uR depthS mods).filters[i] = (decay k i filters[i] r[i]).filter := by
  subst h
  cases frz with
  | true => exact ⟨rfl, rfl⟩
  | false => simp [fdnPassed, fdnStep, fdnDecays]

/-- The line of a slot after the sample (R140). -/
theorem fdnStep_dl_getElem :
    (fdnStep c frz k filters dl uL uR depthS mods).dl[i] =
      fdnWrite c dl[i] (fdnSums c frz (fdnPassed frz k filters (fdnReads c k.len depthS mods dl)) uL uR)[i] :=
  Vector.getElem_zipWith ..

/-- The sample sets `S_DCL` when the clamp of a request changed it (R136). -/
theorem fdnStep_delayClamped :
    (fdnStep c frz k filters dl uL uR depthS mods).delayClamped = true ↔
      ∃ i : Fin 8, fdnReadClamped c k.len[i] depthS mods[i] = true := by
  simp only [fdnStep, Vector.any_eq_true, Vector.getElem_ofFn, id, Fin.exists_iff]

/-- The sample sets `S_FCL` when the feedback clamp changed a sum (R140). -/
theorem fdnStep_feedbackClamped :
    (fdnStep c frz k filters dl uL uR depthS mods).feedbackClamped = true ↔
      ∃ i : Fin 8,
        let v := (fdnSums c frz (fdnPassed frz k filters (fdnReads c k.len depthS mods dl)) uL uR)[i]
        fne (feedbackClamp c v) v = true := by
  simp only [fdnStep, Vector.any_eq_true, Fin.exists_iff]
  rfl

end

/-! ### The whole sample (49_cmd_process.md R190; 30_encoding.md R66) -/

section
variable {s u : State}

/-- The diffuser chain of a channel, on the latched lines (R155; 42_allpass_diffuser.md R112). -/
theorem SampleReady.diffuseChannel_eq (h : SampleReady s u) (ch : Fin 2) (j : Fin 10) (x : Operand) :
    diffuseChannel refCfg ch (lfoOut refCfg u.active.cpx u.modulation).lfoA[j] x u =
      diffuse refCfg u.smoothers[10].cur (fmul (fmul u.smoothers[9].cur s.setup.fsm) 0x3F000000#32)
        (refNum.sin2pi (latchedModulation s).pha[j]) s.setup.aplen[ch] (Vector.ofFn (latchedAp s ch))
        (sanitize refCfg x) := by
  rw [diffuseChannel, lfoOut_lfoA, apDepth, depthSamples, h.setup, h.modulation, h.ap, refCfg]

/-- The diffuser lines after the sample are those the two chains write (42_allpass_diffuser.md R112). -/
theorem samplePhase_ap_eq (c : Config) (left right : Operand) (u : State) :
    (samplePhase c left right u).ap =
      #v[(diffuseChannel c 0 (lfoOut c u.active.cpx u.modulation).lfoA[8] left u).lines,
        (diffuseChannel c 1 (lfoOut c u.active.cpx u.modulation).lfoA[9] right u).lines] := rfl

/-- Steps P4 to P7 set `S_FCL` and `S_DCL` as the chains and the network say (60_exceptions.md R201). -/
theorem samplePhase_flags (c : Config) (left right : Operand) (u : State) :
    ((samplePhase c left right u).sticky.fcl = true ↔
        u.sticky.fcl = true ∨ (networkStep c left right u).feedbackClamped = true) ∧
      ((samplePhase c left right u).sticky.dcl = true ↔
        u.sticky.dcl = true ∨
          (diffuseChannel c 0 (lfoOut c u.active.cpx u.modulation).lfoA[8] left u).clamped = true ∨
          (diffuseChannel c 1 (lfoOut c u.active.cpx u.modulation).lfoA[9] right u).clamped = true ∨
          (networkStep c left right u).delayClamped = true) := by
  simp [samplePhase, networkStep, or_assoc]

end

/-- Settles O24: steps P4 to P7 on the state that steps P1 to P3 leave, each clause the law of its operation. -/
theorem processRunsTheNetworkStep : Obligations.ProcessRunsTheNetworkStep := by
  intro left right s hprep hcanon lfoA lfoB nz mods
  have hready := smoothPhase_controlLatch_sampleReady s
  have hexec := exec_process_prepared left right hprep
  generalize smoothPhase refCfg (controlLatch refCfg s) = u at hready hexec
  have hfrz : u.active.frz = s.targets.frzT := by rw [hready.active]
  have hdepth : depthSamples u = fmul u.smoothers[9].cur s.setup.fsm := by rw [depthSamples, hready.setup]
  have hmods (i : Fin 8) : (lfoOut refCfg u.active.cpx u.modulation).mods[i] = mods i := by
    rw [lfoOut_mods, ditherOut_refCfg, hready.active, hready.modulation]
  have hL : diffuseChannel refCfg 0 (lfoOut refCfg u.active.cpx u.modulation).lfoA[8] left u = _ :=
    hready.diffuseChannel_eq 0 8 left
  have hR : diffuseChannel refCfg 1 (lfoOut refCfg u.active.cpx u.modulation).lfoA[9] right u = _ :=
    hready.diffuseChannel_eq 1 9 right
  have hap := samplePhase_ap_eq refCfg left right u
  obtain ⟨hfcl, hdcl⟩ := samplePhase_flags refCfg left right u
  obtain ⟨hdl, hfilters, hrsp⟩ := samplePhase_network refCfg left right u
  rw [networkStep, hfrz, hdepth] at hfcl hdcl hdl hfilters hrsp
  generalize lfoOut refCfg u.active.cpx u.modulation = lfo at *
  generalize diffuseChannel refCfg 0 lfo.lfoA[8] left u = dL at *
  generalize diffuseChannel refCfg 1 lfo.lfoA[9] right u = dR at *
  generalize hr : fdnReads refCfg u.coeffs.len (fmul u.smoothers[9].cur s.setup.fsm) lfo.mods u.dl = r
  refine ⟨samplePhase refCfg left right u, dL, dR, r, fdnPassed s.targets.frzT u.coeffs u.filters r,
    hadamard refCfg (fdnPassed s.targets.frzT u.coeffs u.filters r),
    fdnSums refCfg s.targets.frzT (fdnPassed s.targets.frzT u.coeffs u.filters r) dL.out dR.out, ?_⟩
  intro depthS apd raw d
  have hrequest (i : Fin 8) : fdnRequest u.coeffs.len[i] depthS lfo.mods[i] = raw i :=
    congrArg (fdnRequest u.coeffs.len[i] depthS) (hmods i)
  have hdelay (i : Fin 8) : fdnDelay refCfg u.coeffs.len[i] depthS lfo.mods[i] = d i :=
    (fdnDelay_refCfg ..).trans (congrArg (fclamp · 0x3F800000#32 (i2f 32767)) (hrequest i))
  refine ⟨hexec, hL, hR, congrArg (·[0]) hap, congrArg (·[1]) hap, fun i => ?reads, fun i => ?filters, rfl,
    fun i => fdnSums_getElem .., fun i => ?words, ?response, ?fcl, ?dcl⟩
  case reads =>
    rw [← hr, fdnReads_getElem, hready.dl]
    exact congrArg (lineReadInterp 32768 (latchedDl s i)) (hdelay i)
  case filters =>
    have hstep := fdnStep_filter_getElem _ s.targets.frzT _ u.filters _ _ dL.out dR.out _ _ i hr.symm
    rw [hready.filters, ← hfilters] at hstep
    exact hstep
  case words =>
    rw [hdl, fdnStep_dl_getElem, hr, hready.dl]
    exact ramRead_fdnWrite_head (latchedDl_canonical hcanon i) _
  case response =>
    rw [hrsp, (fdnStep_out ..).1, (fdnStep_out ..).2, hr]
    rfl
  case fcl =>
    rw [hfcl, hready.fcl, fdnStep_feedbackClamped, hr]
    simp only [feedbackClamp_refCfg]
  case dcl =>
    have hclamped (i : Fin 8) : fdnReadClamped refCfg u.coeffs.len[i] depthS lfo.mods[i] = fne (d i) (raw i) := by
      rw [fdnReadClamped, hdelay, hrequest]
    rw [hdcl, hready.dcl, fdnStep_delayClamped, or_assoc, or_assoc]
    simp only [← hclamped]
    rfl

end Sys2Proof.Machine

/-! The smoothers (spec/46_param_smoothing.md): what one sample makes of a record (R161 to R163), and the properties of
the records that every step keeps (R166). -/

namespace Sys2Proof.Machine

set_option Elab.async false

/-! ### One sample of one record (R161 to R163) -/

/-- A record after RETARGET to the target `p` and ADVANCE (R163). -/
def smoothRecord (ramp : BitVec 16) (p : F32) (m : Smoother) : Smoother := advance (retarget ramp p m)

theorem smoothStep_getElem (ramp : BitVec 16) (pt : Vector F32 14) (sm : Vector Smoother 14) (k : Fin 14) :
    (smoothStep ramp pt sm)[k] = smoothRecord ramp pt[k] sm[k] := by
  simp [smoothStep, retargetAll, smoothRecord]

theorem snapAll_getElem (pt : Vector F32 14) (k : Fin 14) : (snapAll pt)[k] = snapped pt[k] := Vector.getElem_map ..

/-- A record after steps P1 to P3 of PROCESS (49_cmd_process.md R190, R191). -/
theorem smoothPhase_controlLatch_smoother (s : State) (k : Fin 14) :
    (smoothPhase refCfg (controlLatch refCfg s)).smoothers[k] =
      smoothRecord s.setup.ramp s.targets.pt[k] (latchedSmoother s k) := by
  obtain ⟨-, -, -, hsm, -⟩ := smoothPhase_spec refCfg (controlLatch refCfg s)
  rw [hsm, smoothStep_getElem, controlLatch_smoother, controlLatch_setup, controlLatch_targets]

section
variable {ramp : BitVec 16} {p : F32} {m : Smoother}

theorem retarget_of_not_fne (h : fne p m.tgt = false) : retarget ramp p m = m := by
  simp [retarget, h]

theorem retarget_of_fne (h : fne p m.tgt = true) :
    retarget ramp p m = { cur := m.cur, tgt := p, inc := fdiv (fsub p m.cur) (i2f ramp.toNat), cnt := ramp } := by
  simp [retarget, h]

theorem moving_eq_false_iff : moving m = false ↔ m.cnt = 0 := by simp [moving]

theorem moving_iff : moving m = true ↔ m.cnt ≠ 0 := by simp [moving]

@[simp] theorem advance_tgt (m : Smoother) : (advance m).tgt = m.tgt := by
  unfold advance
  split <;> rfl

@[simp] theorem advance_inc (m : Smoother) : (advance m).inc = m.inc := by
  unfold advance
  split <;> rfl

/-- ADVANCE uses up one of the samples that are left (R162). -/
theorem advance_cnt_toNat (m : Smoother) : (advance m).cnt.toNat = m.cnt.toNat - 1 := by
  cases h : moving m with
  | false => rw [advance_of_not_moving h, moving_eq_false_iff.mp h]; rfl
  | true =>
    have hne := moving_iff.mp h
    simp only [advance, h, if_true]
    bv_omega

/-- ADVANCE, with the samples left as a number (R162). -/
theorem advance_eq (m : Smoother) :
    advance m =
      if m.cnt.toNat = 0 then m
      else if m.cnt.toNat = 1 then { m with cur := m.tgt, cnt := 0 }
      else
        { m with
          cur := fsub m.tgt (fmul (i2f (m.cnt.toNat - 1 : Nat)) m.inc)
          cnt := BitVec.ofNat 16 (m.cnt.toNat - 1) } := by
  split_ifs with h0 h1
  · exact advance_of_not_moving (moving_eq_false_iff.mpr (BitVec.eq_of_toNat_eq h0))
  · have hcnt : m.cnt = 1 := BitVec.eq_of_toNat_eq h1
    simp [advance, moving, hcnt]
  · have hmoving : moving m = true := moving_iff.mpr fun h => h0 (congrArg BitVec.toNat h)
    have hleft : (m.cnt - 1).toNat = m.cnt.toNat - 1 := by bv_omega
    have hne : m.cnt - 1 ≠ 0 := by bv_omega
    simp only [advance, hmoving, if_true]
    rw [if_neg hne, ← hleft, BitVec.ofNat_toNat, BitVec.setWidth_eq]

end

/-! ### What a step does to the records -/

/-- Every target satisfies the predicate of its parameter. -/
def TargetsAll (Q : Fin 14 → F32 → Prop) (s : State) : Prop := ∀ k : Fin 14, Q k s.targets.pt[k]

/-- Every smoother record satisfies the predicate of its parameter, under the length of a ramp. -/
def SmoothersAll (R : BitVec 16 → Fin 14 → Smoother → Prop) (s : State) : Prop :=
  ∀ k : Fin 14, R s.setup.ramp k s.smoothers[k]

/-- SNAP to a target of `Q` establishes `R`, and a sample towards such a target keeps it. -/
structure KeptBySmoothing (Q : Fin 14 → F32 → Prop) (R : BitVec 16 → Fin 14 → Smoother → Prop) : Prop where
  snapped : ∀ {ramp k p}, Q k p → R ramp k (snapped p)
  smoothed : ∀ {ramp k p m}, ramp ≠ 0 → Q k p → R ramp k m → R ramp k (smoothRecord ramp p m)

/-- A ramp takes one sample at least: DERIVEFS clamps `RAMP` (R167; 47_cmd_lifecycle.md R175). -/
theorem rampLength_ne_zero (fs : F32) : rampLength refCfg fs ≠ 0 := by
  have hclamp (n : Int) : 1 ≤ iclamp n 1 65535 ∧ iclamp n 1 65535 ≤ 65535 := by
    unfold iclamp
    split_ifs <;> omega
  obtain ⟨hlow, hhigh⟩ := hclamp (iround (fmul refCfg.smoothTime fs))
  intro h
  have hnat := congrArg BitVec.toNat h
  rw [rampLength, BitVec.toNat_ofInt] at hnat
  change (iclamp (iround (fmul refCfg.smoothTime fs)) 1 65535 % 65536).toNat = 0 at hnat
  omega

theorem SetupDerived.ramp_ne_zero {s : State} (h : SetupDerived s) : s.setup.ramp ≠ 0 := by
  rw [h.2]
  exact rampLength_ne_zero s.setup.fs

/-- SETP writes a target and sticky bits only (48_cmd_control.md R180). -/
@[simp] theorem setpWith_smoothers (c : Config) (idx : Idx) (v : Operand) (s : State) :
    (setpWith c idx v s).smoothers = s.smoothers := by
  by_cases hi : idx.toNat < 14
  · rw [setpWith_of_lt c hi, setParam]
    dsimp only
    split <;> rfl
  · rw [setpWith_of_not_lt c hi]
    rfl

/-- PROCESS smooths the latched records of a prepared engine, and leaves those of another (49_cmd_process.md R190). -/
theorem processWith_smoother (left right : Operand) (s : State) (k : Fin 14) :
    (processWith refCfg left right s).smoothers[k] =
      if s.setup.prepared then smoothRecord s.setup.ramp s.targets.pt[k] (latchedSmoother s k) else s.smoothers[k] := by
  unfold processWith
  split
  · exact smoothPhase_controlLatch_smoother s k
  · rfl

section
variable {Q : Fin 14 → F32 → Prop} {R : BitVec 16 → Fin 14 → Smoother → Prop} {s t : State}
variable (hk : KeptBySmoothing Q R)
include hk

/-- CONTROLLATCH leaves the records, or snaps them at a mode switch (49_cmd_process.md R191). -/
theorem KeptBySmoothing.latched (hpt : TargetsAll Q s) (h : SmoothersAll R s) (k : Fin 14) :
    R s.setup.ramp k (latchedSmoother s k) := by
  unfold latchedSmoother
  split
  · exact h k
  · exact hk.snapped (hpt k)

theorem KeptBySmoothing.processWith (hramp : s.setup.ramp ≠ 0) (hpt : TargetsAll Q s) (h : SmoothersAll R s)
    (left right : Operand) : SmoothersAll R (processWith refCfg left right s) := by
  intro k
  rw [processWith_setup, processWith_smoother]
  split
  · exact hk.smoothed hramp (hpt k) (hk.latched hpt h k)
  · exact h k

/-- RESET and an accepted PREPARE snap the records (47_cmd_lifecycle.md R171, R172). -/
theorem KeptBySmoothing.of_snapAll (hpt : TargetsAll Q s) (hsm : t.smoothers = snapAll s.targets.pt) :
    SmoothersAll R t := by
  intro k
  rw [hsm, snapAll_getElem]
  exact hk.snapped (hpt k)

/-- A refused PREPARE leaves the records and `RAMP` (47_cmd_lifecycle.md R171). -/
theorem KeptBySmoothing.prepareWith (hpt : TargetsAll Q s) (h : SmoothersAll R s) (rate block : Operand) :
    SmoothersAll R (prepareWith refCfg rate block s) := by
  unfold Machine.prepareWith
  split
  · exact h
  · exact hk.of_snapAll hpt rfl

/-- PROCESS smooths the records, RESET and PREPARE snap them, and no other command writes them. -/
theorem KeptBySmoothing.commandWith (hramp : s.setup.ramp ≠ 0) (hpt : TargetsAll Q s) (h : SmoothersAll R s)
    (i : Instr) : SmoothersAll R (commandWith refCfg i s) := by
  cases i with
  | nop | rdstat | setmode | setfrz | setcpx => exact h
  | prepare rate block => exact hk.prepareWith hpt h rate block
  | reset => exact hk.of_snapAll hpt rfl
  | process left right => exact hk.processWith hramp hpt h left right
  | setp idx v =>
    rw [Machine.commandWith, SmoothersAll, setpWith_setup, setpWith_smoothers]
    exact h

/-- Every step keeps such a property, where the defaults that RST loads are in `Q`. -/
theorem KeptBySmoothing.step (hdef : ∀ k : Fin 14, Q k refCfg.pdef[k]) (hramp : s.setup.ramp ≠ 0)
    (hpt : TargetsAll Q s) (h : SmoothersAll R s) (hstep : step s = .next t) : SmoothersAll R t :=
  step_gives hstep (hk.commandWith (s := acceptInput s) hramp hpt h) h
    (hk.of_snapAll (s := State.reset) hdef rfl)

end

/-! ### Countdowns and idle records (R166 (a), (b)) -/

/-- A countdown of at most `RAMP`, and an idle record on its target (R166). -/
structure RecordWellFormed (ramp : BitVec 16) (m : Smoother) : Prop where
  cnt_le : m.cnt.toNat ≤ ramp.toNat
  idle : m.cnt = 0 → m.cur = m.tgt

theorem smoothersWellFormed_iff {s : State} :
    SmoothersWellFormed s ↔ SmoothersAll (fun ramp _ => RecordWellFormed ramp) s :=
  forall_congr' fun _ => ⟨fun ⟨hcnt, hidle⟩ => ⟨hcnt, hidle⟩, fun ⟨hcnt, hidle⟩ => ⟨hcnt, hidle⟩⟩

section
variable {ramp : BitVec 16} {p : F32} {m : Smoother}

/-- A new ramp has `RAMP` samples, and one at least, so its record is not idle (R161). -/
theorem RecordWellFormed.retarget (h : RecordWellFormed ramp m) (hramp : ramp ≠ 0) :
    RecordWellFormed ramp (retarget ramp p m) := by
  cases hne : fne p m.tgt with
  | false => rwa [retarget_of_not_fne hne]
  | true =>
    rw [retarget_of_fne hne]
    exact ⟨le_rfl, fun hidle => absurd hidle hramp⟩

/-- The last sample of a ramp puts the record on its target (R162). -/
theorem RecordWellFormed.advance (h : RecordWellFormed ramp m) : RecordWellFormed ramp (advance m) := by
  refine ⟨?_, fun hidle => ?_⟩
  · rw [advance_cnt_toNat]
    exact (Nat.sub_le _ _).trans h.cnt_le
  · cases hmoving : moving m with
    | false =>
      rw [advance_of_not_moving hmoving]
      exact h.idle (moving_eq_false_iff.mp hmoving)
    | true =>
      simp only [Machine.advance, hmoving, if_true] at hidle ⊢
      rw [if_pos hidle]

end

theorem recordWellFormed_keptBySmoothing :
    KeptBySmoothing (fun _ _ => True) (fun ramp _ => RecordWellFormed ramp) where
  snapped _ := ⟨Nat.zero_le _, fun _ => rfl⟩
  smoothed hramp _ h := (h.retarget hramp).advance

/-- Settles O36: a retarget starts a ramp of at least one sample, and its last sample ends on the target. -/
theorem stepKeepsSmoothersWellFormed : Obligations.StepKeepsSmoothersWellFormed := by
  intro s t hsetup hs hstep
  exact smoothersWellFormed_iff.mpr (recordWellFormed_keptBySmoothing.step (fun _ => trivial) hsetup.ramp_ne_zero
    (fun _ => trivial) (smoothersWellFormed_iff.mp hs) hstep)

/-! ### Current values (R166 (c)) -/

/-- ADVANCE leaves the target and the increment, so a record stays on its ramp (R162). -/
theorem OnLegalRamp.advance {ramp : BitVec 16} {k : Fin 14} {m : Smoother} (h : OnLegalRamp ramp k m) :
    OnLegalRamp ramp k (advance m) where
  cnt_le := by
    rw [advance_cnt_toNat]
    exact (Nat.sub_le _ _).trans h.cnt_le
  tgt := by
    rw [advance_tgt]
    exact h.tgt
  cur := h.advance_cur
  inc hleft := by
    rw [advance_tgt, advance_inc]
    refine h.inc fun hidle => hleft ?_
    rw [advance_of_not_moving (moving_eq_false_iff.mpr hidle), hidle]

theorem onLegalRamp_keptBySmoothing : KeptBySmoothing (fun k p => legalParam k p = true) OnLegalRamp where
  snapped hp := onLegalRamp_snapped hp
  smoothed _ hp h := (h.retarget hp).advance

/-- The two invariants of R166 together say that every record is on a legal ramp. -/
theorem smoothersAll_onLegalRamp {s : State} (hsm : SmoothersWellFormed s) (hramps : RampsLegal s) :
    SmoothersAll OnLegalRamp s := by
  intro k
  obtain ⟨htgt, hcur, hinc⟩ := hramps k
  exact ⟨(hsm k).1, htgt, hcur, hinc⟩

/-- Settles O37: a point of a ramp lies between the legal value it started from and its legal target. -/
theorem stepKeepsCurrentValuesLegal : Obligations.StepKeepsCurrentValuesLegal := by
  intro s t htargets hsetup hsm hramps hstep k
  have hrecord := onLegalRamp_keptBySmoothing.step pdef_legal hsetup.ramp_ne_zero htargets
    (smoothersAll_onLegalRamp hsm hramps) hstep k
  exact ⟨hrecord.tgt, hrecord.cur, hrecord.inc⟩

/-! ### The control state after one PROCESS (R161 to R163; 45_lfo_modulation.md R151 to R153; 43_decay_filter.md R127) -/

/-- LFOSTEP advances each primary phase by its own ratio (45_lfo_modulation.md R151). -/
theorem lfoAdvance_pha (c : Config) (rate fs : F32) (m : Modulation) (j : Fin 10) :
    (lfoAdvance c rate fs m).pha[j] = phaseNext rate c.lfoRatio[j] fs m.pha[j] := Vector.getElem_ofFn ..

/-- LFOSTEP advances each secondary phase by its own ratio (45_lfo_modulation.md R152). -/
theorem lfoAdvance_phb (c : Config) (rate fs : F32) (m : Modulation) (i : Fin 8) :
    (lfoAdvance c rate fs m).phb[i] = phaseNext rate c.lfo2Ratio[i] fs m.phb[i] := Vector.getElem_ofFn ..

/-- While the mode stays and no owner moves, PROCESS keeps the coefficients (R163). -/
theorem smoothPhase_controlLatch_coeffs_kept {s : State} (hmode : s.targets.modeT = s.active.mode)
    (hidle : ∀ k ∈ coefOwners, ¬rewritesCurrent s k) :
    (smoothPhase refCfg (controlLatch refCfg s)).coeffs = s.coeffs := by
  obtain ⟨-, -, -, hcoeffs, -⟩ := controlLatch_same_mode refCfg hmode
  rw [smoothPhase_coeffs, controlLatch_setup, controlLatch_targets, if_neg, hcoeffs]
  rw [smoothChanged_iff_rewritesCurrent]
  rintro ⟨k, howner, hmoves⟩
  exact hidle k howner hmoves

/-- A mode switch recomputes, and so does a sample that moves an owner (43_decay_filter.md R127). -/
theorem smoothPhase_controlLatch_coeffs_recomputed {s : State}
    (h : s.targets.modeT ≠ s.active.mode ∨ ∃ k ∈ coefOwners, rewritesCurrent s k) :
    CoeffsCurrent (smoothPhase refCfg (controlLatch refCfg s)) := by
  obtain hmode | hmoves := h
  · refine smoothPhase_coeffsCurrent (CoeffsCurrent.of_eq (s := modeSwitch refCfg s) ?_ (freezeToggle_coeffs _)
      (freezeToggle_mode _) (freezeToggle_setup _) (freezeToggle_smoothers _))
    rw [modeSwitch, if_neg hmode]
    exact recompute_coeffsCurrent _
  · obtain ⟨-, hset, hact, hsm, -⟩ := smoothPhase_spec refCfg (controlLatch refCfg s)
    rw [CoeffsCurrent, smoothPhase_coeffs, if_pos, hset, hact, hsm]
    rwa [controlLatch_setup, controlLatch_targets, smoothChanged_iff_rewritesCurrent]

/-- Settles O23: the records, the phases and the shift register from the laws of their operations, the coefficients
from whether a mode switched or an owner moved. -/
theorem processAdvancesControlState : Obligations.ProcessAdvancesControlState := by
  intro left right s hprep
  have hready := smoothPhase_controlLatch_sampleReady s
  have hmod := processWith_modulation left right s
  rw [processWith, if_pos hprep, if_pos hprep] at hmod
  refine ⟨_, exec_process_prepared left right hprep, fun k => ?smoothers, fun j => ?primary, fun i => ?secondary,
    ?register, ?kept, ?recomputed⟩
  case smoothers =>
    refine (smoothPhase_controlLatch_smoother s k).trans ?_
    rw [smoothRecord, advance_eq]
    rfl
  case primary =>
    rw [hmod]
    exact lfoAdvance_pha ..
  case secondary =>
    rw [hmod]
    exact lfoAdvance_phb ..
  case register => rw [hmod, lfoAdvance, lfsrAfter_eq_iterate]
  case kept => exact smoothPhase_controlLatch_coeffs_kept
  case recomputed =>
    intro h
    have hcurrent := smoothPhase_controlLatch_coeffs_recomputed h
    rwa [CoeffsCurrent, hready.active, hready.setup] at hcurrent

end Sys2Proof.Machine

/-! Runs of PROCESS commands (spec/46_param_smoothing.md R161, R162, R166): each sample uses up one of the samples that
the smoothers still need, and a smoother that needs none is idle on its target. -/

namespace Sys2Proof.Machine

set_option Elab.async false

/-! ### The samples a record still needs (R161, R162) -/

/-- The samples after which a record is idle on the target `p`: those of the ramp that RETARGET finds or starts. -/
def samplesLeft (ramp : BitVec 16) (p : F32) (m : Smoother) : Nat := (retarget ramp p m).cnt.toNat

section
variable {ramp : BitVec 16} {p : F32} {m : Smoother}

theorem samplesLeft_le (h : RecordWellFormed ramp m) : samplesLeft ramp p m ≤ ramp.toNat := by
  unfold samplesLeft
  cases hne : fne p m.tgt with
  | false => rw [retarget_of_not_fne hne]; exact h.cnt_le
  | true => rw [retarget_of_fne hne]

theorem samplesLeft_snapped (hp : fne p p = false) : samplesLeft ramp p (snapped p) = 0 := by
  rw [samplesLeft, retarget_of_not_fne hp]
  rfl

/-- After RETARGET the record ramps to `p` (R161). -/
theorem fne_retarget_tgt (hp : fne p p = false) : fne p (retarget ramp p m).tgt = false := by
  cases hne : fne p m.tgt with
  | false => rwa [retarget_of_not_fne hne]
  | true => rwa [retarget_of_fne hne]

/-- A sample uses up one. -/
theorem samplesLeft_smoothRecord (hp : fne p p = false) :
    samplesLeft ramp p (smoothRecord ramp p m) = samplesLeft ramp p m - 1 := by
  rw [samplesLeft, smoothRecord, retarget_of_not_fne, advance_cnt_toNat, samplesLeft]
  rw [advance_tgt]
  exact fne_retarget_tgt hp

/-- A record that needs no more sample is idle on the target, since a new ramp would take one (R161, R167). -/
theorem idle_of_samplesLeft_eq_zero (hramp : ramp ≠ 0) (h : samplesLeft ramp p m = 0) :
    feq p m.tgt = true ∧ m.cnt = 0 := by
  unfold samplesLeft at h
  cases hne : fne p m.tgt with
  | false =>
    rw [retarget_of_not_fne hne] at h
    exact ⟨by simpa [fne] using hne, BitVec.eq_of_toNat_eq h⟩
  | true =>
    rw [retarget_of_fne hne] at h
    exact absurd (BitVec.eq_of_toNat_eq h) hramp

end

/-! ### Runs of samples -/

/-- A prepared engine with the invariants of the statement, whose smoothers need at most `n` samples. -/
structure SettlesWithin (n : Nat) (s : State) : Prop where
  prepared : s.setup.prepared = true
  targets : TargetsLegal s
  setup : SetupDerived s
  smoothers : SmoothersWellFormed s
  left : ∀ k : Fin 14, samplesLeft s.setup.ramp s.targets.pt[k] s.smoothers[k] ≤ n

section
variable {n : Nat} {s : State}

/-- A legal target is no NaN (40_numerics.md R83). -/
theorem SettlesWithin.fne_target (h : SettlesWithin n s) (k : Fin 14) : fne s.targets.pt[k] s.targets.pt[k] = false :=
  fne_self_of_within (h.targets k)

/-- CONTROLLATCH leaves a record, or snaps it to its target (49_cmd_process.md R191). -/
theorem SettlesWithin.samplesLeft_latched (h : SettlesWithin n s) (k : Fin 14) :
    samplesLeft s.setup.ramp s.targets.pt[k] (latchedSmoother s k) ≤ n := by
  unfold latchedSmoother
  split
  · exact h.left k
  · exact (samplesLeft_snapped (h.fne_target k)).le.trans (Nat.zero_le n)

/-- A sample brings the engine one sample nearer to rest. -/
theorem SettlesWithin.processWith (h : SettlesWithin n s) (left right : Operand) :
    SettlesWithin (n - 1) (processWith refCfg left right s) where
  prepared := by
    rw [processWith_setup]
    exact h.prepared
  targets := commandWith_targetsLegal h.targets (.process left right)
  setup := commandWith_setupDerived h.setup (.process left right)
  smoothers := smoothersWellFormed_iff.mpr (recordWellFormed_keptBySmoothing.processWith h.setup.ramp_ne_zero
    (fun _ => trivial) (smoothersWellFormed_iff.mp h.smoothers) left right)
  left k := by
    rw [processWith_setup, processWith_targets, processWith_smoother, if_pos h.prepared,
      samplesLeft_smoothRecord (h.fne_target k)]
    exact Nat.sub_le_sub_right (h.samplesLeft_latched k) 1

/-- An engine that needs no more sample is idle on its targets. -/
theorem SettlesWithin.idle (h : SettlesWithin 0 s) (k : Fin 14) :
    s.smoothers[k].cnt = 0 ∧ s.smoothers[k].cur = s.smoothers[k].tgt ∧
      feq s.targets.pt[k] s.smoothers[k].cur = true := by
  obtain ⟨htgt, hcnt⟩ := idle_of_samplesLeft_eq_zero h.setup.ramp_ne_zero (Nat.le_zero.mp (h.left k))
  have hcur := (h.smoothers k).2 hcnt
  exact ⟨hcnt, hcur, hcur ▸ htgt⟩

end

/-- The words that wait are PROCESS commands. -/
def OnlyProcess (inputs : List Input) : Prop :=
  ∀ x ∈ inputs, ∃ left right, x = .word (encode (.process left right))

/-- A run of `n` samples brings the engine `n` samples nearer to rest, by induction on `n`. -/
theorem run_samples_settles (n : Nat) : ∀ (m : Nat) (s : State), SettlesWithin m s → n ≤ s.inputs.length →
    OnlyProcess s.inputs →
    ∃ t, Sys2Proof.core.run n s = .next t ∧ t.targets = s.targets ∧ SettlesWithin (m - n) t := by
  induction n with
  | zero => exact fun m s h _ _ => ⟨s, rfl, rfl, h⟩
  | succ n ih =>
    intro m s h hlen honly
    obtain ⟨x, rest, hin⟩ := List.exists_cons_of_length_pos (Nat.zero_lt_of_lt hlen)
    rw [hin, List.length_cons] at hlen
    rw [hin, OnlyProcess, List.forall_mem_cons] at honly
    obtain ⟨⟨left, right, rfl⟩, hrest⟩ := honly
    have haccept : SettlesWithin m { s with inputs := rest } :=
      ⟨h.prepared, h.targets, h.setup, h.smoothers, h.left⟩
    have hinputs : (processWith refCfg left right { s with inputs := rest }).inputs = rest := processWith_inputs ..
    obtain ⟨t, hrun, htargets, hsettles⟩ := ih _ _ (haccept.processWith left right)
      (by rw [hinputs]; exact Nat.le_of_succ_le_succ hlen) (by rw [hinputs]; exact hrest)
    refine ⟨t, ?_, ?_, ?_⟩
    · rw [run_succ (step_of_encode rfl hin)]
      exact hrun
    · rw [htargets, processWith_targets]
    · rwa [Nat.sub_sub, Nat.add_comm 1 n] at hsettles

/-- Settles O45: no smoother needs more than `RAMP` samples, each PROCESS is one, and then it is idle on its target. -/
theorem rampsFinishOnTheirTargets : Obligations.RampsFinishOnTheirTargets := by
  intro n s hprep htargets hsetup hsm hramp hlen honly
  have hstart : SettlesWithin s.setup.ramp.toNat s :=
    ⟨hprep, htargets, hsetup, hsm, fun k => samplesLeft_le (smoothersWellFormed_iff.mp hsm k)⟩
  obtain ⟨t, hrun, ht, hsettles⟩ := run_samples_settles n _ s hstart hlen honly
  rw [Nat.sub_eq_zero_of_le hramp] at hsettles
  refine ⟨t, hrun, ht, fun k => ?_⟩
  rw [← ht]
  exact hsettles.idle k

end Sys2Proof.Machine

/-! The lifecycle commands (spec/47_cmd_lifecycle.md): the words of the command rules, NOP and the idle port, and the
state after RESET and after PREPARE, register group by register group. -/

namespace Sys2Proof.Machine

set_option Elab.async false

/-! ### The example words of the command rules (R170 to R173; spec/48_cmd_control.md, spec/49_cmd_process.md) -/

/-- Settles O6: the NOP word has NOP's header before operands that NOP ignores, and each of the others is the word its
command encodes to. -/
theorem sampleWordsDecode : Obligations.SampleWordsDecode :=
  ⟨Carries.decode_eq (i := .nop) (hasHeader_wordOf 0x00 0 0x12345678 0xDEADBEEF),
    encodeDecodeRoundTrip (.prepare 0x473B8000 0x00000200) rfl,
    encodeDecodeRoundTrip .reset rfl,
    encodeDecodeRoundTrip (.process 0x3F800000 0x00000000) rfl,
    encodeDecodeRoundTrip .rdstat rfl,
    encodeDecodeRoundTrip (.setp 0 0x42C80000) rfl,
    encodeDecodeRoundTrip (.setmode 200) rfl,
    encodeDecodeRoundTrip (.setfrz 255) rfl,
    encodeDecodeRoundTrip (.setcpx 1) rfl⟩

/-! ### NOP and the idle port (R170) -/

/-- An idle port presents the word of NOP (log entry 5). -/
theorem idleInput_eq : idleInput = .word (wordOf 0x00 0 0 0 0) := rfl

/-- With no input waiting the step runs the idle port's word, and there is nothing to accept. -/
theorem step_of_idle {s : State} (h : s.inputs = []) : step s = stepWord (wordOf 0x00 0 0 0 0) s := by
  have haccept : acceptInput s = s := by
    rw [acceptInput, h, List.tail_nil, ← h]
  simp only [step, nextInput, h, List.headD_nil, idleInput_eq, haccept]

/-- A NOP word decodes whatever its operand words are. -/
theorem decode_nop_word (a b : Operand) : decode (wordOf 0x00 0 0 a b) = .ok .nop :=
  Carries.decode_eq (i := .nop) (hasHeader_wordOf 0x00 0 a b)

/-- A NOP word with an index or a reserved field that is not zero is illegal (30_encoding.md R64). -/
theorem illegalFields_nop_word {idx : Idx} {rsv : BitVec 16} (a b : Operand) (h : idx ≠ 0 ∨ rsv ≠ 0) :
    illegalFields (wordOf 0x00 idx rsv a b) := by
  unfold illegalFields
  rw [fieldRsv_wordOf, fieldOpc_wordOf, fieldIdx_wordOf]
  obtain hidx | hrsv := h
  · exact .inr (.inr (.inl ⟨by decide, hidx⟩))
  · exact .inl hrsv

/-- Settles O12: the meaning of NOP, its legal and illegal words, and the idle port as a step on a NOP word. -/
theorem nopChangesNothing : Obligations.NopChangesNothing := by
  refine ⟨fun _ => rfl, decode_nop_word, fun _ _ a b h => decode_of_illegalFields (illegalFields_nop_word a b h),
    fun s h => ?_⟩
  rw [step_of_idle h, stepWord_of_decode (decode_nop_word 0 0)]
  rfl

/-! ### The reload that RESET and PREPARE share (R172, R174) -/

/-- After a snap the current values are the targets (46_param_smoothing.md R164). -/
@[simp] theorem currents_snapAll (pt : Vector F32 14) : currents (snapAll pt) = pt := currents_map_snapped pt

/-- The line is at its initial value: its head at 0 and every word `+0.0` (41_delay_line.md R104). -/
def IsCleared {w : Nat} (l : Line w) : Prop := l.head = 0 ∧ ∀ a, ramRead l a = 0x00000000#32

theorem isCleared_clearLine {w : Nat} : IsCleared (clearLine : Line w) := ⟨rfl, ramRead_clearLine⟩

section
variable (c : Config) (s : State)

/-- The coefficients after a reload are those of the targets (43_decay_filter.md R125). -/
theorem reload_coeffs_targets :
    (reload c s).coeffs = coeffsOf c s.targets.modeT s.setup.fs s.setup.fsk s.targets.pt := by
  rw [reload_coeffs, currents_snapAll]

/-- A reload raises `S_DCL` when the room size among the targets asks for a clamped length (R125). -/
theorem reload_sticky_targets :
    (reload c s).sticky = flagDcl (lengthClamped c s.targets.modeT s.setup.fsk s.targets.pt[1]) s.sticky := by
  simp only [reload_sticky, currents_snapAll]

theorem reload_smoother (k : Fin 14) : (reload c s).smoothers[k] = snapped s.targets.pt[k] :=
  snapAll_getElem s.targets.pt k

theorem reload_filter (i : Fin 8) : (reload c s).filters[i] = clearFilter := Vector.getElem_replicate ..

/-- A reload clears all sixteen lines (R174). -/
theorem reload_linesAll_isCleared : LinesAll IsCleared IsCleared (reload c s) := by
  unfold LinesAll
  rw [reload_dl, reload_ap]
  exact ⟨fun i => by simpa using isCleared_clearLine, fun ch k => by simpa using isCleared_clearLine⟩

end

/-- Settles O15, register group by register group of the reload. -/
theorem resetCommandClearsAndReloads : Obligations.ResetCommandClearsAndReloads := by
  intro s
  obtain ⟨hdl, hap⟩ := reload_linesAll_isCleared refCfg s
  exact ⟨noResponse (reload refCfg s), rfl, rfl, rfl, rfl, rfl, rfl, reload_sticky_targets refCfg s,
    reload_smoother refCfg s, reload_coeffs_targets refCfg s, reload_filter refCfg s, rfl, hdl, hap⟩

/-! ### The operands of PREPARE (R171) -/

/-- The test of the operands that PREPARE makes first. -/
theorem prepareRefused_iff {rate block : Operand} :
    prepareRefused rate block = true ↔
      isNaN (daz rate) = true ∨ fle (daz rate) 0x00000000#32 = true ∨ block.toInt < 1 := by
  simp only [prepareRefused, Bool.or_eq_true, decide_eq_true_eq, or_assoc]
  rfl

/-- A clamp of a value that is not a NaN (40_numerics.md R84). -/
theorem fclamp_of_not_isNaN {x : F32} (h : isNaN x = false) (lo hi : F32) :
    fclamp x lo hi = if flt x lo then lo else if flt hi x then hi else x := by
  simp only [fclamp, h, Bool.false_eq_true, if_false]

/-- The rate an accepted PREPARE takes is the operand clamped to `[FS_MIN, FS_MAX]`. -/
theorem prepareRate_of_accepted {rate block : Operand} (h : prepareRefused rate block = false) :
    prepareRate refCfg rate =
      if flt (daz rate) 0x45FA0000#32 then 0x45FA0000#32
      else if flt 0x483B8000#32 (daz rate) then 0x483B8000#32 else daz rate := by
  simp only [prepareRefused, Bool.or_eq_false_iff] at h
  obtain ⟨⟨hnan, -⟩, -⟩ := h
  exact fclamp_of_not_isNaN hnan refCfg.fsMin refCfg.fsMax

/-! ### The registers that DERIVEFS computes (R175) -/

/-- A register holds an integer clamped between 1 and a bound that fits it. -/
theorem toNat_ofInt_iclamp {w : Nat} (n : Int) {hi : Int} (hlow : 1 ≤ hi) (hhigh : hi < 2 ^ w) :
    ((BitVec.ofInt w (iclamp n 1 hi)).toNat : Int) = iclamp n 1 hi := by
  have hbounds : 1 ≤ iclamp n 1 hi ∧ iclamp n 1 hi ≤ hi := by
    unfold iclamp
    split_ifs <;> omega
  rw [BitVec.toNat_ofInt, Int.toNat_of_nonneg (Int.emod_nonneg _ (by positivity))]
  exact Int.emod_eq_of_lt (by omega) (by push_cast; omega)

/-- `RAMP` as a number (46_param_smoothing.md R167). -/
theorem rampLength_toNat (fs : F32) :
    ((rampLength refCfg fs).toNat : Int) = iclamp (iround (fmul 0x3CA3D70A#32 fs)) 1 65535 :=
  toNat_ofInt_iclamp _ (by decide) (by decide)

/-- `APLEN` as a number (42_allpass_diffuser.md R113). -/
theorem stageLength_toNat (fsk : F32) (ch : Fin 2) (k : Fin 4) :
    ((stageLength refCfg fsk ch k).toNat : Int) =
      iclamp (iround (fmul (i2f (refCfg.ap48[ch][k])) fsk)) 1 4095 :=
  toNat_ofInt_iclamp _ (by decide) (by decide)

theorem deriveFs_aplen (c : Config) (prepared : Bool) (fs : F32) (maxblk : BitVec 32) (ch : Fin 2) (k : Fin 4) :
    (deriveFs c prepared fs maxblk).aplen[ch][k] = stageLength c (fdiv fs c.fsRef) ch k := by
  simp [deriveFs]

/-! ### PREPARE (R171) -/

/-- The state from which an accepted PREPARE at the rate `fs` reloads: the sticky bits cleared but for the clamp of
the operand `v`, the configuration registers derived from the rate. -/
def prepareSetup (c : Config) (v fs : F32) (block : Operand) (s : State) : State :=
  { s with
    sticky := flagPcl (fne fs v) noSticky
    setup := deriveFs c true fs block }

theorem exec_prepare_refused {rate block : Operand} (h : prepareRefused rate block = true) (s : State) :
    exec (.prepare rate block) s = .next (noResponse (prepareFail s)) := by
  rw [exec_eq_commandWith, commandWith, prepareWith, if_pos h]

theorem exec_prepare_accepted {rate block : Operand} (h : prepareRefused rate block = false) (s : State) :
    exec (.prepare rate block) s =
      .next (noResponse (reload refCfg (prepareSetup refCfg (daz rate) (prepareRate refCfg rate) block s))) := by
  rw [exec_eq_commandWith, commandWith, prepareWith, h, if_neg Bool.false_ne_true]
  rfl

/-- Settles O14: a refused PREPARE is `prepareFail`; an accepted one derives the registers from the clamped rate and
reloads. -/
theorem prepareFollowsItsRule : Obligations.PrepareFollowsItsRule := by
  intro rate block s v f fsk
  refine ite_prop_iff_and.2 ⟨fun h => exec_prepare_refused (prepareRefused_iff.2 h) s, fun h => ?_⟩
  have haccepted : prepareRefused rate block = false := Bool.eq_false_iff.2 (mt prepareRefused_iff.1 h)
  have hrate : prepareRate refCfg rate = f := prepareRate_of_accepted haccepted
  rw [exec_prepare_accepted haccepted, hrate]
  have haplen (ch : Fin 2) (k : Fin 4) : ((deriveFs refCfg true f block).aplen[ch][k].toNat : Int) =
      iclamp (iround (fmul (i2f (refCfg.ap48[ch][k])) fsk)) 1 4095 := by
    rw [deriveFs_aplen]
    exact stageLength_toNat fsk ch k
  obtain ⟨hdl, hap⟩ := reload_linesAll_isCleared refCfg (prepareSetup refCfg v f block s)
  exact ⟨_, rfl, rfl, rfl, rfl, rfl, rfl, rfl, rfl, rfl, rampLength_toNat f, haplen, rfl,
    reload_sticky_targets refCfg _, reload_smoother refCfg _, reload_coeffs_targets refCfg _,
    reload_filter refCfg (prepareSetup refCfg v f block s), rfl, hdl, hap⟩

end Sys2Proof.Machine

/-! The port, RST and the lifecycle as a whole (spec/20_memory.md R50, R53; spec/70_reset_and_hazards.md R220, R222,
R224): every step accepts one input, and what RST, PREPARE and RESET leave of the earlier state. -/

namespace Sys2Proof.Machine

set_option Elab.async false

/-! ### The inputs that wait (20_memory.md R50, R53) -/

/-- SETP with a parameter: a NaN sets `S_PCL` only, another value is written clamped (48_cmd_control.md R180). -/
theorem setParam_eq (c : Config) (k : Fin 14) (value : Operand) (s : State) :
    setParam c k value s =
      if isNaN (operandF32 value) then { s with sticky := flagPcl true s.sticky }
      else { writeTarget k (clampParam c k (operandF32 value)) s with
        sticky := flagPcl (fne (clampParam c k (operandF32 value)) (operandF32 value)) s.sticky } := rfl

/-- SETP leaves the inputs that wait. -/
theorem setpWith_inputs (c : Config) (idx : Idx) (v : Operand) (s : State) :
    (setpWith c idx v s).inputs = s.inputs := by
  by_cases h : idx.toNat < 14
  · rw [setpWith_of_lt c h, setParam_eq]
    split <;> rfl
  · rw [setpWith_of_not_lt c h]
    rfl

/-- PREPARE leaves the inputs that wait. -/
theorem prepareWith_inputs (c : Config) (rate block : Operand) (s : State) :
    (prepareWith c rate block s).inputs = s.inputs := by
  unfold prepareWith
  split <;> rfl

/-- No command reads or writes the inputs that wait behind its own. -/
theorem commandWith_inputs (c : Config) (i : Instr) (s : State) : (commandWith c i s).inputs = s.inputs := by
  cases i with
  | nop | reset | rdstat | setmode | setfrz | setcpx => rfl
  | prepare rate block => exact prepareWith_inputs c rate block s
  | process left right => exact processWith_inputs c left right s
  | setp idx v => exact setpWith_inputs c idx v s

/-- Settles O8: accepting the input takes the first one off, and neither a command nor an illegal word nor RST touches
the others. -/
theorem everyInputIsAcceptedOnce : Obligations.EveryInputIsAcceptedOnce := by
  intro s
  have hstep := step_eq_stepWith s
  exact ⟨_, hstep, step_gives (P := fun t => t.inputs = s.inputs.tail) hstep
    (fun i => commandWith_inputs refCfg i (acceptInput s)) rfl rfl⟩

/-! ### RST (70_reset_and_hazards.md R220) -/

/-- RST takes its effect on the state in which it is accepted. -/
theorem step_of_rst {s : State} {rest : List Input} (h : s.inputs = .rst :: rest) :
    step s = .next (applyRst refCfg { s with inputs := rest }) := by
  simp only [step, nextInput, acceptInput, h, List.headD_cons, List.tail_cons]

/-- The line `l'` holds the words of `l`, and its head is at 0. -/
def Rewound {w : Nat} (l l' : Line w) : Prop := l' = { buf := l.buf, head := 0 }

/-- RST rewinds every line of the network and of the diffusers. -/
theorem applyRst_rewound (c : Config) (s : State) :
    (∀ i : Fin 8, Rewound s.dl[i] (applyRst c s).dl[i]) ∧
      ∀ (ch : Fin 2) (k : Fin 4), Rewound s.ap[ch][k] (applyRst c s).ap[ch][k] := by
  simp [Rewound, applyRst, rewind]

/-- Settles O10: RST builds the reset state, rewinds the lines and keeps the inputs behind it. -/
theorem rstRestoresResetState : Obligations.RstRestoresResetState := by
  intro s rest h
  exact ⟨_, step_of_rst h, rfl, applyRst_rewound refCfg { s with inputs := rest }⟩

/-! ### What PREPARE and RESET leave of the earlier state (R222, R224) -/

/-- A step at a presented command runs it (20_memory.md R50). -/
theorem step_of_presentedCommand {s : State} {i : Instr} (h : presentedCommand s = some i) :
    step s = .next (commandWith refCfg i (acceptInput s)) := by
  obtain ⟨_, j, -, -, hj, heq⟩ | ⟨_, -, hnone, -⟩ | ⟨-, hnone, -⟩ := step_effect (step_eq_stepWith s)
  · obtain rfl : i = j := Option.some.inj (h.symm.trans hj)
    rw [step_eq_stepWith, heq]
  · exact absurd (h.symm.trans hnone) nofun
  · exact absurd (h.symm.trans hnone) nofun

/-- The presented command depends on the inputs only. -/
theorem presentedCommand_congr {s s' : State} (h : s.inputs = s'.inputs) :
    presentedCommand s = presentedCommand s' := by
  unfold presentedCommand nextInput
  rw [h]

/-- From equal targets and inputs, and equal values of the two rate registers that RECOMPUTE reads, a reload gives
states that differ in the configuration registers and the sticky bits at most. -/
theorem reload_forgets (c : Config) {s s' : State} (htargets : s.targets = s'.targets) (hinputs : s.inputs = s'.inputs)
    (hfs : s.setup.fs = s'.setup.fs) (hfsk : s.setup.fsk = s'.setup.fsk) :
    noResponse (reload c s') =
      { noResponse (reload c s) with setup := s'.setup, sticky := (reload c s').sticky } := by
  obtain ⟨⟩ := s
  obtain ⟨⟩ := s'
  simp only at htargets hinputs hfs hfsk
  subst htargets hinputs
  simp only [noResponse, reload, recompute, snap, engineClear, latchControls, hfs, hfsk]

/-- An accepted PREPARE is a reload of the state with its derived registers. -/
theorem commandWith_prepare_accepted {rate block : Operand} (h : prepareRefused rate block = false) (s : State) :
    commandWith refCfg (.prepare rate block) s =
      noResponse (reload refCfg (prepareSetup refCfg (daz rate) (prepareRate refCfg rate) block s)) :=
  (commandWith_of_exec (exec_prepare_accepted h s)).symm

/-- From equal targets and inputs an accepted PREPARE gives equal states (R224): it writes every configuration register
and clears the sticky bits before it reloads. -/
theorem commandWith_prepare_forgets {rate block : Operand} (h : prepareRefused rate block = false) {s s' : State}
    (htargets : s.targets = s'.targets) (hinputs : s.inputs = s'.inputs) :
    commandWith refCfg (.prepare rate block) s' = commandWith refCfg (.prepare rate block) s := by
  rw [commandWith_prepare_accepted h, commandWith_prepare_accepted h]
  generalize daz rate = v
  generalize prepareRate refCfg rate = f
  have hsticky : (reload refCfg (prepareSetup refCfg v f block s')).sticky =
      (reload refCfg (prepareSetup refCfg v f block s)).sticky := by
    simp only [reload_sticky, prepareSetup, htargets]
  rw [reload_forgets refCfg (s := prepareSetup refCfg v f block s) (s' := prepareSetup refCfg v f block s') htargets
    hinputs rfl rfl, hsticky]
  rfl

/-- Settles O16: PREPARE and RESET end in the same reload, which reads the targets and the rate registers only. -/
theorem prepareAndResetForgetHistory : Obligations.PrepareAndResetForgetHistory := by
  intro s s' htargets hinputs
  have haccept : (acceptInput s).inputs = (acceptInput s').inputs := congrArg List.tail hinputs
  have hpres := presentedCommand_congr hinputs
  refine ⟨fun rate block h hok => ?_, fun h hsetup => ?_⟩
  · rw [step_of_presentedCommand h, step_of_presentedCommand (hpres.symm.trans h),
      commandWith_prepare_forgets hok (s := acceptInput s) (s' := acceptInput s') htargets haccept]
  · have hfs : s.setup.fs = s'.setup.fs := (congrArg Setup.fs hsetup).symm
    have hfsk : s.setup.fsk = s'.setup.fsk := (congrArg Setup.fsk hsetup).symm
    exact ⟨_, _, step_of_presentedCommand h, step_of_presentedCommand (hpres.symm.trans h),
      reload_forgets refCfg (s := acceptInput s) (s' := acceptInput s') htargets haccept hfs hfsk⟩

end Sys2Proof.Machine

/-! The control commands SETP, SETMODE, SETFRZ and SETCPX (spec/48_cmd_control.md R180 to R183). -/

namespace Sys2Proof.Machine

set_option Elab.async false

/-! ### SETP (R180) -/

/-- What SETP stores for a value that is not a NaN is the value cut off at the ends of the parameter's range. -/
theorem clampParam_of_not_isNaN (c : Config) (k : Fin 14) {v : F32} (h : isNaN v = false) :
    clampParam c k v = if flt v c.pmin[k] then c.pmin[k] else if flt c.pmax[k] v then c.pmax[k] else v :=
  fclamp_of_not_isNaN h c.pmin[k] c.pmax[k]

/-- SETP at the index of a parameter writes that parameter. -/
theorem exec_setp (k : Fin 14) (value : Operand) (s : State) :
    exec (.setp (BitVec.ofNat 8 k.val) value) s = .next (noResponse (setParam refCfg k value s)) := by
  have hidx : (BitVec.ofNat 8 k.val).toNat = k.val := by
    rw [BitVec.toNat_ofNat, Nat.mod_eq_of_lt (by omega)]
  have hlt : (BitVec.ofNat 8 k.val).toNat < 14 := hidx.trans_lt k.isLt
  have hfin : (⟨_, hlt⟩ : Fin 14) = k := Fin.ext hidx
  rw [exec_eq_commandWith, commandWith, setpWith_of_lt refCfg hlt, hfin]

/-- A SETP word with an index of 14 or more is illegal (30_encoding.md R64). -/
theorem illegalFields_setp_word {idx : Idx} (a b : Operand) (h : 14 ≤ idx.toNat) :
    illegalFields (wordOf 0x10 idx 0 a b) := by
  unfold illegalFields
  rw [fieldOpc_wordOf, fieldIdx_wordOf]
  exact .inr (.inr (.inr ⟨rfl, h⟩))

/-- Settles O17: a NaN is dropped, another value is clamped and stored, and the words with no parameter are illegal. -/
theorem setpStoresClampedValue : Obligations.SetpStoresClampedValue := by
  refine ⟨fun k value s => ?_, fun idx a b h => decode_of_illegalFields (illegalFields_setp_word a b h)⟩
  intro idx v w
  refine ite_prop_iff_and.2 ⟨fun hnan => ?_, fun hnum => ?_⟩
  · rw [exec_setp, setParam_eq, operandF32, if_pos hnan, flagPcl, Bool.or_true]
    rfl
  · have hclamp : clampParam refCfg k v = w := clampParam_of_not_isNaN refCfg k (Bool.not_eq_true _ ▸ hnum)
    rw [exec_setp, setParam_eq, operandF32, if_neg hnum, hclamp]
    rfl

/-! ### SETMODE (R181) -/

/-- The mode of an index is the one of its number, and the last one for an index above 9. -/
theorem modeIndex_modeOfIdx (idx : Idx) :
    (modeIndex (modeOfIdx idx)).val = if 9 < idx.toNat then 9 else idx.toNat := by
  unfold modeOfIdx
  generalize idx.toNat = n
  match n with
  | 0 | 1 | 2 | 3 | 4 | 5 | 6 | 7 | 8 | 9 => rfl
  | n + 10 => rw [if_pos (by omega)]; rfl

/-- A preset replaces `PT[6..10]` and no other parameter. -/
theorem loadPreset_pt_getElem (c : Config) (m : Mode) (t : Targets) (k : Fin 14) :
    (loadPreset c m t).pt[k] =
      if k = 6 then c.preset[modeIndex m].xlo
      else if k = 7 then c.preset[modeIndex m].xhi
      else if k = 8 then c.preset[modeIndex m].modrate
      else if k = 9 then c.preset[modeIndex m].moddepth
      else if k = 10 then c.preset[modeIndex m].diffusion
      else t.pt[k] := by
  match k with
  | 0 | 1 | 2 | 3 | 4 | 5 | 6 | 7 | 8 | 9 | 10 | 11 | 12 | 13 => simp [loadPreset]

/-- Settles O18: the mode of the index, its preset among the targets, and `S_PCL` for an index above 9. -/
theorem setmodeLoadsPreset : Obligations.SetmodeLoadsPreset := fun idx s =>
  ⟨modeOfIdx idx, modeIndex_modeOfIdx idx, (loadPreset refCfg (modeOfIdx idx) s.targets).pt,
    loadPreset_pt_getElem refCfg (modeOfIdx idx) s.targets, rfl⟩

/-! ### SETFRZ and SETCPX (R182, R183) -/

/-- A flag operand is on when its number is not zero. -/
theorem flagOfIdx_eq (idx : Idx) : flagOfIdx idx = decide (idx.toNat ≠ 0) :=
  decide_eq_decide.2 (not_congr BitVec.toNat_inj.symm)

/-- Settles O19: each of the two commands writes its flag into its target. -/
theorem setfrzAndSetcpxWriteTargets : Obligations.SetfrzAndSetcpxWriteTargets := by
  intro idx s
  rw [← flagOfIdx_eq]
  exact ⟨rfl, rfl⟩

end Sys2Proof.Machine

/-! PROCESS as a whole (spec/49_cmd_process.md R190 to R193): its frame, what its operands reach, the mode switch and
the sanitised samples. -/

namespace Sys2Proof.Machine

set_option Elab.async false

/-! ### Step P0 and the frame of PROCESS (R190, R191, R193) -/

/-- Settles O21: step P0 answers silence. -/
theorem unpreparedProcessIsSilent : Obligations.UnpreparedProcessIsSilent := by
  intro left right s h
  rw [exec_eq_commandWith, commandWith, processWith_unprepared refCfg left right h]
  rfl

/-- One write to a line: the head advances by one modulo the capacity, and every word but the one at the head stays
(41_delay_line.md R101). -/
theorem lineWrite_frame {w cap : Nat} (hcap : cap ≤ 2 ^ w) (hpos : 0 < cap) (l : Line w) (v : F32) :
    (lineWrite cap l v).head.toNat = (l.head.toNat + 1) % cap ∧
      ∀ a, a ≠ l.head.toNat → ramRead (lineWrite cap l v) a = ramRead l a := by
  refine ⟨?_, fun a ha => ramRead_lineWrite_of_ne cap l v ha⟩
  rw [lineWrite_head, BitVec.toNat_ofNat, Nat.mod_eq_of_lt ((Nat.mod_lt _ hpos).trans_le hcap)]

section
variable (left right : Operand) (s : State)

/-- A network line after PROCESS of a prepared engine is the latched line with one word written. -/
theorem samplePhase_latched_dl (i : Fin 8) :
    ∃ v, (samplePhase refCfg left right (smoothPhase refCfg (controlLatch refCfg s))).dl[i] =
      lineWrite 32768 (latchedDl s i) v := by
  obtain ⟨v, hv⟩ := samplePhase_dl refCfg left right (smoothPhase refCfg (controlLatch refCfg s)) i
  rw [(smoothPhase_controlLatch_sampleReady s).dl] at hv
  exact ⟨_, hv⟩

/-- A diffuser line after PROCESS of a prepared engine is the latched line with one word written. -/
theorem samplePhase_latched_ap (ch : Fin 2) (k : Fin 4) :
    ∃ v, (samplePhase refCfg left right (smoothPhase refCfg (controlLatch refCfg s))).ap[ch][k] =
      lineWrite 4096 (latchedAp s ch k) v := by
  obtain ⟨v, hv⟩ := samplePhase_ap refCfg left right (smoothPhase refCfg (controlLatch refCfg s)) ch k
  rw [(smoothPhase_controlLatch_sampleReady s).ap, Fin.getElem_fin (Vector.ofFn _), Vector.getElem_ofFn] at hv
  exact ⟨v, hv⟩

end

/-- Settles O22: the frames of the three phases, and one write to each latched line. -/
theorem processFrame : Obligations.ProcessFrame := by
  intro left right s hprep
  have hready := smoothPhase_controlLatch_sampleReady s
  have hexec := exec_process_prepared left right hprep
  obtain ⟨-, -, hrsp⟩ := samplePhase_network refCfg left right (smoothPhase refCfg (controlLatch refCfg s))
  have hprocess := commandWith_of_exec hexec
  obtain ⟨f, d, i, hsticky⟩ := processWith_sticky refCfg left right s
  refine ⟨_, _, hexec, hrsp, ?targets, ?setup, ?inputs, hready.active, ?pcl, ?pfail, ?ill, ?icl, ?dcl, ?fcl,
    fun i => ?network, fun ch k => ?diffusers⟩
  case targets => rw [hprocess, commandWith, processWith_targets]
  case setup => rw [hprocess, commandWith, processWith_setup]
  case inputs => rw [hprocess, commandWith, processWith_inputs]
  case network =>
    obtain ⟨v, hv⟩ := samplePhase_latched_dl left right s i
    rw [hv]
    exact lineWrite_frame (by decide) (by decide) (latchedDl s i) v
  case diffusers =>
    obtain ⟨v, hv⟩ := samplePhase_latched_ap left right s ch k
    rw [hv]
    exact lineWrite_frame (by decide) (by decide) (latchedAp s ch k) v
  all_goals
    rw [hprocess, commandWith, hsticky]
    simp +contextual

/-! ### What the operands reach (R190; 44_fdn_core.md R141) -/

/-- A sample's taps and filter states come from the reads, so the injected values do not reach them. -/
theorem fdnStep_injection (c : Config) (frz : Bool) (k : Coeffs) (f : Vector SlotFilter 8) (dl : Vector (Line 15) 8)
    (uL uR uL' uR' d : F32) (mods : Vector F32 8) :
    (fdnStep c frz k f dl uL' uR' d mods).outL = (fdnStep c frz k f dl uL uR d mods).outL ∧
      (fdnStep c frz k f dl uL' uR' d mods).outR = (fdnStep c frz k f dl uL uR d mods).outR ∧
      (fdnStep c frz k f dl uL' uR' d mods).filters = (fdnStep c frz k f dl uL uR d mods).filters :=
  ⟨rfl, rfl, rfl⟩

/-- What the network answers, and the filter states it leaves, do not depend on the operands (R141). -/
theorem networkStep_operands (c : Config) (left right left' right' : Operand) (s : State) :
    (networkStep c left' right' s).outL = (networkStep c left right s).outL ∧
      (networkStep c left' right' s).outR = (networkStep c left right s).outR ∧
      (networkStep c left' right' s).filters = (networkStep c left right s).filters :=
  fdnStep_injection ..

/-- Steps P4 to P7 with other operands give other lines and sticky bits, and nothing else that differs. -/
theorem samplePhase_operands (c : Config) (left right left' right' : Operand) (s : State) :
    samplePhase c left' right' s = { samplePhase c left right s with
      dl := (samplePhase c left' right' s).dl
      ap := (samplePhase c left' right' s).ap
      sticky := (samplePhase c left' right' s).sticky } := by
  obtain ⟨hl, hr, hf⟩ := networkStep_operands c left right left' right' s
  obtain ⟨-, hfilters, hrsp⟩ := samplePhase_network c left right s
  obtain ⟨-, hfilters', hrsp'⟩ := samplePhase_network c left' right' s
  rw [hf, ← hfilters] at hfilters'
  rw [hl, hr, ← hrsp] at hrsp'
  calc samplePhase c left' right' s
      = { samplePhase c left' right' s with
          filters := (samplePhase c left' right' s).filters
          rsp := (samplePhase c left' right' s).rsp } := rfl
    _ = _ := by rw [hfilters', hrsp']; rfl

/-- Settles O25: the operands enter in steps P4 to P7 only, where they reach the lines and the sticky bits. -/
theorem responseIgnoresOwnInput : Obligations.ResponseIgnoresOwnInput := by
  intro left right left' right' s
  cases hprep : s.setup.prepared with
  | true =>
    exact ⟨_, _, exec_process_prepared left right hprep, exec_process_prepared left' right' hprep,
      samplePhase_operands ..⟩
  | false =>
    exact ⟨_, _, unpreparedProcessIsSilent left right s hprep, unpreparedProcessIsSilent left' right' s hprep, rfl⟩

/-! ### The mode switch (R191) -/

/-- A record snapped to a number, not a NaN, stays as it is in a sample towards that number. -/
theorem smoothRecord_snapped {ramp : BitVec 16} {p : F32} (h : fne p p = false) :
    smoothRecord ramp p (snapped p) = snapped p := by
  rw [smoothRecord, retarget_of_not_fne h]
  exact advance_of_not_moving rfl

/-- After a mode switch towards legal targets every smoother is snapped. -/
theorem smoothPhase_controlLatch_snapped {s : State} (hmode : s.targets.modeT ≠ s.active.mode)
    (hlegal : TargetsLegal s) (k : Fin 14) :
    (smoothPhase refCfg (controlLatch refCfg s)).smoothers[k] = snapped s.targets.pt[k] := by
  have hlatched : latchedSmoother s k = snapped s.targets.pt[k] := if_neg hmode
  rw [smoothPhase_controlLatch_smoother, hlatched, smoothRecord_snapped (fne_self_of_within (hlegal k))]

/-- After a mode switch towards legal targets the coefficients are those of the new mode at its targets. -/
theorem smoothPhase_controlLatch_mode_coeffs {s : State} (hmode : s.targets.modeT ≠ s.active.mode)
    (hlegal : TargetsLegal s) :
    (smoothPhase refCfg (controlLatch refCfg s)).coeffs =
      coeffsOf refCfg s.targets.modeT s.setup.fs s.setup.fsk s.targets.pt := by
  have hready := smoothPhase_controlLatch_sampleReady s
  have hcurrent := smoothPhase_controlLatch_coeffs_recomputed (.inl hmode)
  have hsm : (smoothPhase refCfg (controlLatch refCfg s)).smoothers = s.targets.pt.map snapped := by
    ext1 k hk
    rw [Vector.getElem_map]
    exact smoothPhase_controlLatch_snapped hmode hlegal ⟨k, hk⟩
  rwa [CoeffsCurrent, hready.active, hready.setup, hsm, currents_map_snapped] at hcurrent

/-- A line cleared and then written once reads `+0.0` everywhere but at index 0. -/
theorem ramRead_lineWrite_clearLine {w : Nat} (cap : Nat) (v : F32) {a : Nat} (h : a ≠ 0) :
    ramRead (lineWrite cap (clearLine : Line w) v) a = 0x00000000#32 := by
  rw [ramRead_lineWrite_of_ne cap clearLine v (by simpa [clearLine] using h), ramRead_clearLine]
  rfl

/-- While the network lines hold zeros, which the sample reads, the answer is silence whatever the operands (R141). -/
theorem samplePhase_silent_rsp {u : State} (h : ∀ i : Fin 8, allWords isZero u.dl[i].buf = true)
    (left right : Operand) : (samplePhase refCfg left right u).rsp = some (.audio 0x0000000000000000#64) := by
  obtain ⟨-, -, hrsp⟩ := samplePhase_network refCfg left right u
  obtain ⟨hl, hr⟩ := fdnStep_silent_out h u.active.frz u.coeffs u.filters
    (diffuseChannel refCfg 0 (lfoOut refCfg u.active.cpx u.modulation).lfoA[8] left u).out
    (diffuseChannel refCfg 1 (lfoOut refCfg u.active.cpx u.modulation).lfoA[9] right u).out (depthSamples u)
    (lfoOut refCfg u.active.cpx u.modulation).mods
  rw [hrsp, networkStep, hl, hr]
  rfl

/-- Settles O27: the switch clears the lines before the sample reads and writes them, and snaps the smoothers, which
then rest on their legal targets. -/
theorem modeSwitchIsSilent : Obligations.ModeSwitchIsSilent := by
  intro left right s hprep hmode hlegal
  have hready := smoothPhase_controlLatch_sampleReady s
  have hdl (i : Fin 8) : latchedDl s i = clearLine := if_neg hmode
  have hap (ch : Fin 2) (k : Fin 4) : latchedAp s ch k = clearLine := if_neg hmode
  refine ⟨_, exec_process_prepared left right hprep, ?silent, congrArg Active.mode hready.active,
    smoothPhase_controlLatch_snapped hmode hlegal, smoothPhase_controlLatch_mode_coeffs hmode hlegal,
    fun i a ha => ?network, fun ch k a ha => ?diffusers⟩
  case silent => exact samplePhase_silent_rsp (fun i => by rw [hready.dl, hdl]; rfl) left right
  case network =>
    obtain ⟨v, hv⟩ := samplePhase_latched_dl left right s i
    rw [hv, hdl, ramRead_lineWrite_clearLine _ v ha]
  case diffusers =>
    obtain ⟨v, hv⟩ := samplePhase_latched_ap left right s ch k
    rw [hv, hap, ramRead_lineWrite_clearLine _ v ha]

/-! ### The sanitised samples (R192) -/

/-- Two numbers differ when the one is below the other (40_numerics.md R83). -/
theorem fne_of_flt {a b : F32} (h : flt a b = true) : fne a b = true ∧ fne b a = true := by
  simp only [flt, Bool.and_eq_true, Bool.not_eq_true', decide_eq_true_eq] at h
  obtain ⟨⟨ha, hb⟩, hlt⟩ := h
  simp [fne, feq, ha, hb, hlt.ne, hlt.ne']

/-- A number, not a NaN, is equal to itself (R83). -/
theorem fne_self_of_not_isNaN {a : F32} (h : isNaN a = false) : fne a a = false := by
  simp [fne, feq, h]

/-- A clamp changes a NaN and a value beyond a bound, and no other (40_numerics.md R84). -/
theorem clampChanged_iff {x lo hi : F32} :
    clampChanged x lo hi = true ↔ isNaN x = true ∨ flt x lo = true ∨ flt hi x = true := by
  rw [clampChanged, Bool.or_eq_true]
  cases hx : isNaN x with
  | true => simp
  | false =>
    rw [fclamp_of_not_isNaN hx]
    split_ifs with hlow hhigh
    · simp [hlow, (fne_of_flt hlow).2]
    · simp [hhigh, (fne_of_flt hhigh).1]
    · simp [hlow, hhigh, fne_self_of_not_isNaN hx]

/-- The limits of a sample are `-2.0` and `2.0` (10_state.md R6). -/
theorem inLimit_words : fneg refCfg.inLimit = 0xC0000000#32 ∧ refCfg.inLimit = 0x40000000#32 := by decide

/-- SANITIZE, case by case. -/
theorem sanitize_refCfg (u : Operand) :
    sanitize refCfg u =
      if isNaN (daz u) = true then 0x00000000#32
      else if flt (daz u) 0xC0000000#32 = true then 0xC0000000#32
      else if flt 0x40000000#32 (daz u) = true then 0x40000000#32 else daz u := by
  rw [sanitize, inLimit_words.1, inLimit_words.2]
  rfl

/-- SANITIZE sets `S_ICL` for a NaN and for a value beyond a limit. -/
theorem sanitizeClamped_iff (u : Operand) :
    sanitizeClamped refCfg u = true ↔
      isNaN (daz u) = true ∨ flt (daz u) 0xC0000000#32 = true ∨ flt 0x40000000#32 (daz u) = true := by
  rw [sanitizeClamped, inLimit_words.1, inLimit_words.2]
  exact clampChanged_iff

/-- A sanitised sample is in the range of the limits. -/
theorem within_sanitize (u : Operand) : within (fneg refCfg.inLimit) refCfg.inLimit (sanitize refCfg u) = true :=
  within_fclamp_of_zero (by decide) _

/-- A sanitised sample is no subnormal number, so that its flush is itself (40_numerics.md R81). -/
theorem operandF32_sanitize (u : Operand) : operandF32 (sanitize refCfg u) = sanitize refCfg u :=
  daz_of_not_isSubnormal (isSubnormal_fclamp (isSubnormal_daz u) (by decide) (by decide))

/-- SANITIZE leaves a sanitised sample as it is. -/
theorem sanitize_sanitize (u : Operand) : sanitize refCfg (sanitize refCfg u) = sanitize refCfg u := by
  rw [sanitize, operandF32_sanitize, fclamp_of_within (within_sanitize u)]

/-- SANITIZE of a sanitised sample raises no flag. -/
theorem sanitizeClamped_sanitize (u : Operand) : sanitizeClamped refCfg (sanitize refCfg u) = false := by
  have hself := fne_self_of_within (within_sanitize u)
  have hnan : isNaN (sanitize refCfg u) = false := by
    rw [Bool.eq_false_iff, ne_eq, isNaN_iff_fne_self, hself]
    exact Bool.false_ne_true
  rw [sanitizeClamped, operandF32_sanitize, clampChanged, fclamp_of_within (within_sanitize u), hself, hnan]
  rfl

/-- A diffuser chain takes its operand through SANITIZE only (R190). -/
theorem diffuseChannel_congr {c : Config} {x x' : Operand} (h : sanitize c x' = sanitize c x) (ch : Fin 2) (lfo : F32)
    (u : State) : diffuseChannel c ch lfo x' u = diffuseChannel c ch lfo x u := by
  rw [diffuseChannel, h, diffuseChannel]

/-- The network takes the operands through SANITIZE only. -/
theorem networkStep_congr {c : Config} {left right left' right' : Operand} (hleft : sanitize c left' = sanitize c left)
    (hright : sanitize c right' = sanitize c right) (u : State) :
    networkStep c left' right' u = networkStep c left right u := by
  simp only [networkStep, diffuseChannel_congr hleft, diffuseChannel_congr hright]

/-- The sticky bits after steps P4 to P7. -/
theorem samplePhase_sticky_eq (c : Config) (left right : Operand) (u : State) :
    (samplePhase c left right u).sticky =
      flagFcl (networkStep c left right u).feedbackClamped
        (flagDcl ((diffuseChannel c 0 (lfoOut c u.active.cpx u.modulation).lfoA[8] left u).clamped ||
            (diffuseChannel c 1 (lfoOut c u.active.cpx u.modulation).lfoA[9] right u).clamped ||
            (networkStep c left right u).delayClamped)
          (flagIcl (sanitizeClamped c left || sanitizeClamped c right) u.sticky)) := rfl

/-- Another `S_ICL` changes none of the flags that are raised beside it. -/
theorem flags_replace_icl (f d i i' : Bool) (k : Sticky) :
    flagFcl f (flagDcl d (flagIcl i' k)) = { flagFcl f (flagDcl d (flagIcl i k)) with icl := k.icl || i' } := rfl

/-- Operands with equal sanitised samples raise the same flags but for `S_ICL`. -/
theorem samplePhase_sticky_congr {c : Config} {left right left' right' : Operand}
    (hleft : sanitize c left' = sanitize c left) (hright : sanitize c right' = sanitize c right) (u : State) :
    (samplePhase c left' right' u).sticky = { (samplePhase c left right u).sticky with
      icl := u.sticky.icl || (sanitizeClamped c left' || sanitizeClamped c right') } := by
  rw [samplePhase_sticky_eq, samplePhase_sticky_eq, networkStep_congr hleft hright, diffuseChannel_congr hleft,
    diffuseChannel_congr hright]
  exact flags_replace_icl ..

/-- Operands with equal sanitised samples give states that differ in `S_ICL` at most. -/
theorem samplePhase_congr {c : Config} {left right left' right' : Operand} (hleft : sanitize c left' = sanitize c left)
    (hright : sanitize c right' = sanitize c right) (u : State) :
    samplePhase c left' right' u = { samplePhase c left right u with
      sticky := { (samplePhase c left right u).sticky with
        icl := u.sticky.icl || (sanitizeClamped c left' || sanitizeClamped c right') } } := by
  have hdl : (samplePhase c left' right' u).dl = (samplePhase c left right u).dl :=
    congrArg FdnResult.dl (networkStep_congr hleft hright u)
  have hap : (samplePhase c left' right' u).ap = (samplePhase c left right u).ap := by
    rw [samplePhase_ap_eq, samplePhase_ap_eq, diffuseChannel_congr hleft, diffuseChannel_congr hright]
  rw [samplePhase_operands c left right left' right' u, hdl, hap, samplePhase_sticky_congr hleft hright]

/-- No step before P4 writes `S_ICL` (60_exceptions.md R201). -/
theorem smoothPhase_controlLatch_icl (c : Config) (s : State) :
    (smoothPhase c (controlLatch c s)).sticky.icl = s.sticky.icl := by
  obtain ⟨_, hlatch⟩ := controlLatch_sticky c s
  obtain ⟨_, hsmooth⟩ := smoothPhase_sticky c (controlLatch c s)
  rw [hsmooth, hlatch, flagDcl_icl, flagDcl_icl]

/-- Steps P4 to P7 set `S_ICL` when SANITIZE altered a sample. -/
theorem samplePhase_icl (c : Config) (left right : Operand) (u : State) :
    (samplePhase c left right u).sticky.icl = true ↔
      u.sticky.icl = true ∨ sanitizeClamped c left = true ∨ sanitizeClamped c right = true := by
  simp [samplePhase]

/-- Settles O28: SANITIZE case by case, its flag, and the sample phase, which takes the operands through SANITIZE. -/
theorem inputIsSanitised : Obligations.InputIsSanitised := by
  refine ⟨sanitize_refCfg, fun left right s hprep => ⟨_, _, exec_process_prepared left right hprep,
    exec_process_prepared _ _ hprep, ?flag, ?sanitised⟩⟩
  case flag =>
    rw [samplePhase_icl, smoothPhase_controlLatch_icl, sanitizeClamped_iff, sanitizeClamped_iff]
  case sanitised =>
    rw [samplePhase_congr (sanitize_sanitize left) (sanitize_sanitize right), sanitizeClamped_sanitize,
      sanitizeClamped_sanitize, smoothPhase_controlLatch_icl, Bool.or_false, Bool.or_false]

end Sys2Proof.Machine
